-- ==== Sys2Proof/Word.lean ====
section
/-! DEFINITION. The word types of the care memory, the port and the pack wire (spec 00, BYTES AND WORDS). -/

namespace Sys2Proof

/-- A byte of care memory, of a port frame or of a pack-wire frame. -/
abbrev Byte := BitVec 8

/-- A word of care memory: 4 bytes, little-endian (00, BYTES AND WORDS). -/
abbrev Word := BitVec 32

/-- The 2-byte address of a port frame (13, PORT FRAMES). Care memory is 0x0000 to 0x1FFF of it. -/
abbrev Addr := BitVec 16

end Sys2Proof
end

