-- ==== Sys2Proof/Syntax.lean ====
section
/-! DEFINITION. The commands the block takes: one constructor for each row of spec/opcode_table.json, with the values
that the row's rule gives the event. -/

namespace Sys2Proof

/-- The two bays. -/
inductive Bay where
  | a
  | b
deriving DecidableEq, Repr

/-- What a latch position sensor reads (R71 to R75). `moved` is neither closed nor open. -/
inductive LatchReading where
  | closed
  | opened
  | moved
deriving DecidableEq, Repr

/-- The pins of one bay: CONTACT (true is high), BUTTON (true is pressed), and the latch sensor. -/
structure BayPins where
  contact : Bool
  button : Bool
  latch : LatchReading
deriving DecidableEq, Repr

/-- The levels of the input pins (00, table of lines). -/
structure PinLevels where
  a : BayPins
  b : BayPins
  dcPresent : Bool
  hostPresent : Bool
deriving DecidableEq, Repr

/-- The rating class of the adapter (R48). A DC_ID level that matches no class reads as `unknown`. -/
inductive DcClass where
  | unknown
  | c45
  | c65
  | c90
deriving DecidableEq, Repr

/-- What an ambient sensor gives at a step (R109): a valid reading in lux, or none or an invalid one. -/
inductive AmbientReading where
  | valid (lux : Int)
  | missing
deriving DecidableEq, Repr

/-- What the panel sensor gives at a step (R110), in °C. -/
inductive PanelReading where
  | valid (celsius : Int)
  | openCircuit
  | missing
deriving DecidableEq, Repr

/-- A reading of the accelerometer, in mg, before the clamp of R135. -/
structure Accel where
  x : Int
  y : Int
  z : Int
deriving DecidableEq, Repr

/-- The kinds of hold entries (05, table of kinds). -/
inductive HoldKind where
  | latch (bay : Bay)
  | storage
  | brightFreeze
deriving DecidableEq, Repr

/-- The port operation by which the host writes one word: WRITE of four bytes, EXCHANGE_IF_EQUAL with its compare
value, SET_BITS or CLEAR_BITS (R172 to R174). -/
inductive Via where
  | write
  | exchange (compare : Word)
  | setBits
  | clearBits
deriving DecidableEq, Repr

/-- The commands. -/
inductive Instr where
  /-- POWER_ON_RESET: power first comes to the part, with these levels on its pins. -/
  | powerOnReset (pins : PinLevels)
  /-- STARTUP_END -/
  | startupEnd
  /-- HOST_PRESENT_CHANGE: the line takes this level. -/
  | hostPresentChange (level : Bool)
  /-- READ of a length from an address. -/
  | read (addr : Addr) (length : BitVec 16)
  /-- WRITE of data, whose number is the frame's length field, to an address. -/
  | write (addr : Addr) (data : List Byte)
  /-- EXCHANGE_IF_EQUAL -/
  | exchangeIfEqual (addr : Addr) (compare new : Word)
  /-- SET_BITS -/
  | setBits (addr : Addr) (mask : Word)
  /-- CLEAR_BITS -/
  | clearBits (addr : Addr) (mask : Word)
  /-- UNKNOWN_OPERATION: a frame with this operation byte. -/
  | unknownOperation (op : Byte)
  /-- FRAME_DISCARDED -/
  | frameDiscarded
  /-- CARE_RESET: the host sets RESET in CARE_CONTROL by this operation. -/
  | careReset (via : Via)
  /-- CARE_RESET_END -/
  | careResetEnd
  /-- NEWS_WRITE: the host writes this value, or gives it as a mask, to NEWS. -/
  | newsWrite (via : Via) (value : Word)
  /-- NEWS_FORCE_WRITE -/
  | newsForceWrite (via : Via) (value : Word)
  /-- NEWS_MASK_WRITE -/
  | newsMaskWrite (via : Via) (value : Word)
  /-- NOTICE_TOP_WRITE -/
  | noticeTopWrite (via : Via) (value : Word)
  /-- ARRIVAL: the host moves a slot's owner word to READY. -/
  | arrival (slot : Nat) (via : Via)
  /-- OWNER_WORD_EMPTY: the host moves a slot's owner word to EMPTY. -/
  | ownerWordEmpty (slot : Nat) (via : Via)
  /-- UNKNOWN_KIND: the dispatcher takes a slot of an unknown kind or with bad flags. -/
  | unknownKind
  /-- BAY_RELEASE: the dispatcher takes a slot of this kind; so for the kinds that follow. -/
  | bayRelease
  /-- CANCEL -/
  | cancel
  /-- PACK_QUERY -/
  | packQuery
  /-- BAY_RECHECK -/
  | bayRecheck
  /-- SET_CHARGE -/
  | setCharge
  /-- SET_CURVE -/
  | setCurve
  /-- SET_BRIGHTNESS -/
  | setBrightness
  /-- SET_DISPLAY -/
  | setDisplay
  /-- SET_DROP -/
  | setDrop
  /-- SET_SWAP -/
  | setSwap
  /-- HOLD -/
  | hold
  /-- UNHOLD -/
  | unhold
  /-- PIN_IMPACT -/
  | pinImpact
  /-- UNPIN_IMPACT -/
  | unpinImpact
  /-- CLEAR_IMPACTS -/
  | clearImpacts
  /-- SET_PLATFORM -/
  | setPlatform
  /-- SAVE_SETTINGS -/
  | saveSettings
  /-- PACK_LINK_PORT_RESET: a PORT_RESET naming the pack link. -/
  | packLinkPortReset
  /-- SENSOR_PORT_RESET: a PORT_RESET naming the sensor port. -/
  | sensorPortReset
  /-- CONTACT_ARRIVAL: the CONTACT pin of a bay rises. -/
  | contactArrival (bay : Bay)
  /-- CONTACT_LOSS: the CONTACT pin of a bay falls. -/
  | contactLoss (bay : Bay)
  /-- SEATING_TIMER_EXPIRY -/
  | seatingTimerExpiry (bay : Bay)
  /-- CONTACT_HOLD_EXPIRY -/
  | contactHoldExpiry (bay : Bay)
  /-- JOLT_TIMER_EXPIRY -/
  | joltTimerExpiry (bay : Bay)
  /-- GAUGE_POLL: a poll falls due. -/
  | gaugePoll (bay : Bay)
  /-- BUTTON_CHANGE: the BUTTON pin of a bay takes this level. -/
  | buttonChange (bay : Bay) (pressed : Bool)
  /-- PRESS_TIMER_EXPIRY -/
  | pressTimerExpiry (bay : Bay)
  /-- LATCH_SENSOR_CHANGE: the latch sensor of a bay gives this reading. -/
  | latchSensorChange (bay : Bay) (reading : LatchReading)
  /-- OPEN_CONFIRM_EXPIRY -/
  | openConfirmExpiry (bay : Bay)
  /-- CLOSE_CONFIRM_EXPIRY -/
  | closeConfirmExpiry (bay : Bay)
  /-- RETRY_TIMER_EXPIRY -/
  | retryTimerExpiry (bay : Bay)
  /-- SWITCHING_TIMER_EXPIRY -/
  | switchingTimerExpiry
  /-- WINDOW_TIMER_EXPIRY -/
  | windowTimerExpiry
  /-- HOLD_EXPIRY of the SOFTWARE entry of a kind. -/
  | holdExpiry (kind : HoldKind)
  /-- DC_PRESENT_CHANGE: the DC_PRESENT pin takes this level. -/
  | dcPresentChange (level : Bool)
  /-- DC_DEBOUNCE_EXPIRY, with the class that DC_ID reads then. -/
  | dcDebounceExpiry (id : DcClass)
  /-- RAIL_SAMPLE of this many mW. -/
  | railSample (milliwatts : Int)
  /-- BUDGET_STEP -/
  | budgetStep
  /-- BRIGHTNESS_STEP, with what AMB_FRONT, AMB_TOP and PANEL_TEMP give. -/
  | brightnessStep (front top : AmbientReading) (panel : PanelReading)
  /-- ACCEL_SAMPLE: a reading that arrives in its period and is marked valid. -/
  | accelSample (reading : Accel)
  /-- MISSING_SAMPLE -/
  | missingSample
  /-- SENSOR_LOSS: the missing sample that brings the missing count to 4. -/
  | sensorLoss
  /-- IMPACT_WINDOW_END: the sample, good or missing, that brings the window count to 16. -/
  | impactWindowEnd (reading : Option Accel)
  /-- SETTLE_TIMER_EXPIRY -/
  | settleTimerExpiry
  /-- SETTLING_CAP_EXPIRY -/
  | settlingCapExpiry
  /-- GUARD_TAIL_EXPIRY -/
  | guardTailExpiry
  /-- STARTING_TIMER_EXPIRY -/
  | startingTimerExpiry
  /-- REQUEST_FRAME_END -/
  | requestFrameEnd
  /-- ANSWER_FRAME: an answer frame of these bytes, its CRC included, ends. -/
  | answerFrame (bytes : List Byte)
  /-- ANSWER_FRAME_GAP_END -/
  | answerFrameGapEnd
  /-- ANSWER_WINDOW_EXPIRY -/
  | answerWindowExpiry
  /-- RESET_TIMER_EXPIRY -/
  | resetTimerExpiry
  /-- SAVE_TIMER_EXPIRY, with the region whose read-back differed, if one did. -/
  | saveTimerExpiry (failed : Option (Fin 4))
  /-- ANSWER_FRAME_BEGIN -/
  | answerFrameBegin
deriving DecidableEq, Repr

end Sys2Proof
end

