-- ==== Sys2Proof/Config.lean ====
section
/-! DEFINITION. What the manual leaves open: the free values. -/

namespace Sys2Proof

/-- Free values (assumption log 12): the n-th value the manual leaves open. It has no body, so nothing can be
proved of it; State.free counts how many have been drawn. -/
opaque Config.freeValue : Nat → Nat

end Sys2Proof
end

