-- ==== Sys2Proof/Machine/State.lean ====
section
/-! DEFINITION. The state of the block: every register, list, counter, mode, timer and pin the spec gives it, as plain
data; and the state right after a power-on reset. -/

namespace Sys2Proof.Machine

/-- Why the block stops. The manual gives the part no fault, so this type has no constructor: no command of the model
ends in a fault. -/
inductive Fault where
deriving DecidableEq, Repr

/-- Why a command is not taken. -/
inductive Refusal where
  /-- Raised by exec's arm of a command that has no meaning yet; safe, because the block stops there. -/
  | notModelled (mnemonic : String)
deriving DecidableEq, Repr

/-- A moment on the block's clock, in quarter milliseconds since power-on reset (assumption log 1). A timer is held as
the moment at which it runs out. -/
abbrev Instant := Nat

/-! ### Bays (R1, R2, R27, R71) -/

/-- Bay states (01, BAY STATES). -/
inductive BayState where
  | vacant
  | seating
  | reading
  | barred
  | online
  | releasing
  | jolted
deriving DecidableEq, Repr

/-- Latch states (04, THE LATCH). -/
inductive LatchState where
  | closed
  | opening
  | opened
  | closing
  | stuck
deriving DecidableEq, Repr

/-- Jolt phases (01, BAY STATES). -/
inductive JoltPhase where
  | noContact
  | contactHold
  | serialCheck
deriving DecidableEq, Repr

/-- Barred reasons (R15). -/
inductive BarredReason where
  | notAPack
  | badLayout
  | unsupported
  | badRating
  | duplicateSerial
  | noAnswer
  | packFault
deriving DecidableEq, Repr

/-- The descriptor of a pack (R16). Bit r of `marks` is the region-present mark of region r. -/
structure Descriptor where
  regionCount : Nat
  chemistry : Nat
  series : Nat
  serial : BitVec 64
  nominal : Nat
  design : Nat
  maxDischarge : Nat
  maxCharge : Nat
  chargeVoltage : Nat
  cycles : Nat
  health : Nat
  shockCount : Nat
  lastSeverity : Nat
  lastSequence : Nat
  marks : Byte
deriving DecidableEq, Repr

/-- The gauge values (R1, R21). -/
structure Gauge where
  voltage : Nat
  current : Int
  remaining : Nat
  full : Nat
  temperature : Int
  flags : Byte
  charge : Nat
deriving DecidableEq, Repr

/-- What a JOLTED bay holds (R1, R10, R12). The jolt timer is absent once it has expired. -/
structure Jolt where
  timer : Option Instant
  phase : JoltPhase
  holdTimer : Option Instant
  expired : Bool
deriving DecidableEq, Repr

/-- The bay context (R1). `latchTimer` is the open confirmation timer while the latch is OPENING, the close
confirmation timer while it is CLOSING and the retry timer while it is STUCK (R71). -/
structure BayContext where
  state : BayState
  latch : LatchState
  latchTimer : Option Instant
  pathClosed : Bool
  descriptor : Option Descriptor
  gauge : Option Gauge
  stale : Bool
  failedPolls : Nat
  barred : Option BarredReason
  chargeEnable : Bool
  chargeLimit : Nat
  seatingTimer : Option Instant
  pollDue : Option Instant
  jolt : Option Jolt
  pressTimer : Option Instant
  releaseWait : Bool
deriving DecidableEq, Repr

/-! ### Swap controller (R69) -/

/-- The carrier of a release (R65). -/
inductive Carrier where
  | dc
  | bay (bay : Bay)
  | bridge
deriving DecidableEq, Repr

/-- Who asked for a release: a slot, with its acceptance number (R182), a button, or nobody any more (R92). -/
inductive Requester where
  | slot (slot acceptance : Nat)
  | button
  | nobody
deriving DecidableEq, Repr

/-- The phases of a release (R69). -/
inductive Phase where
  | switching
  | unlatching
  | waiting
  | relatching
deriving DecidableEq, Repr

/-- The abort reasons of a release (R69). -/
inductive AbortReason where
  | expired
  | fall
  | guarded
  | carrierLost
  | latchFault
deriving DecidableEq, Repr

/-- The swap context (R69). The window deadline is the uptime of `windowTimer`. -/
structure SwapContext where
  bay : Bay
  requester : Requester
  carrier : Carrier
  phase : Phase
  switchingTimer : Option Instant
  windowTimer : Option Instant
  need : Nat
  best : Nat
  cancelRequested : Bool
  abortReason : Option AbortReason
  pathReclosed : Bool
deriving DecidableEq, Repr

/-! ### Pack link (R27, R32) -/

/-- Link states (R27). -/
inductive LinkState where
  | idle
  | busy
  | resetting
deriving DecidableEq, Repr

/-- How a transaction ends (R28). -/
inductive LinkOutcome where
  | good
  | noAnswer
  | linkError
  | gone
  | abandoned
deriving DecidableEq, Repr

/-- A record handed for stamping: its sequence and severity code (R36). -/
structure StampItem where
  sequence : Nat
  severity : Nat
deriving DecidableEq, Repr

/-- The work of a job (R32): a full IDENT with the regions read so far, a serial-only IDENT, a STAMP with its covered
and follow-on lists, a GAUGE, or a QUERY with its slot, acceptance number, region and bulk buffer. -/
inductive Work where
  | identFull (regions : List (List Byte))
  | identSerial
  | stamp (covered followOn : List StampItem)
  | gauge
  | query (slot acceptance region buffer : Nat)
deriving DecidableEq, Repr

/-- A job (R32). The queuing time is in whole ms since power-on reset (assumption log 16). -/
structure Job where
  bay : Bay
  work : Work
  queuedAt : Nat
  order : Nat
deriving DecidableEq, Repr

/-- Where an attempt stands on the wire (R28, R31): the request frame is being sent until an instant; the answer window
is open until an instant; or an answer frame has begun. -/
inductive WirePhase where
  | sending (till : Instant)
  | window (till : Instant)
  | answering
deriving DecidableEq, Repr

/-- The values that a STAMP_WRITE stores (R37). -/
structure StampValues where
  count : Nat
  severity : Nat
  sequence : Nat
deriving DecidableEq, Repr

/-- The transaction in flight (R27). Its job is the IN_FLIGHT job. `discard` marks a QUERY transaction whose outcome a
care reset discards (R44). -/
structure Transaction where
  job : Job
  request : List Byte
  attempt : Nat
  startedAt : Nat
  phase : WirePhase
  stamp : Option StampValues
  discard : Bool
deriving DecidableEq, Repr

/-- The pack link (R27). `waiting` holds the WAITING jobs. -/
structure PackLink where
  state : LinkState
  waiting : List Job
  inFlight : Option Transaction
  resetTimer : Option Instant
  resetSlot : Option (Nat × Nat)
  nextOrder : Nat
deriving DecidableEq, Repr

/-! ### Power unit (R45) -/

/-- Supply modes (R45). -/
inductive SupplyMode where
  | dc
  | packs
  | bridge
deriving DecidableEq, Repr

/-- Platform states (R62). -/
inductive Platform where
  | off
  | standby
  | run
deriving DecidableEq, Repr

/-- The DC debounce timer with the level it waits to confirm (R47). -/
structure Debounce where
  timer : Instant
  level : Bool
deriving DecidableEq, Repr

/-- A carrying episode (R45, R60). -/
structure CarryingEpisode where
  lowPosted : Bool
  critical : Bool
  runtime : Nat
deriving DecidableEq, Repr

/-- The power unit (R45). `dc` is the rating class while the DC state is PRESENT; the rating follows from it (R48). -/
structure PowerUnit where
  dc : Option DcClass
  debounce : Option Debounce
  samples : List Nat
  pSys : Nat
  pBl : Nat
  lBase : Nat
  mode : SupplyMode
  supply : Nat
  allowance : Nat
  headroom : Nat
  chargeBridge : Nat
  chargeA : Nat
  chargeB : Nat
  bridgeEnergy : Nat
  episode : Option CarryingEpisode
  hibernate : Bool
  platform : Platform
  railDue : Instant
  budgetDue : Instant
deriving DecidableEq, Repr

/-! ### Hold set (R94) -/

/-- Owners of hold entries (05, table of owners). -/
inductive HoldOwner where
  | fall
  | swap
  | software
deriving DecidableEq, Repr

/-- A hold entry (R94). `created` is an uptime in ms. -/
structure HoldEntry where
  kind : HoldKind
  owner : HoldOwner
  expiry : Option Instant
  created : Nat
deriving DecidableEq, Repr

/-- The hold set (R94), with the STORAGE_GUARD line it drives (R103). -/
structure HoldSet where
  entries : List HoldEntry
  storageGuard : Bool
deriving DecidableEq, Repr

/-! ### Brightness unit (R106) -/

/-- Brightness modes (R106). -/
inductive BrightMode where
  | auto
  | manual
  | night
deriving DecidableEq, Repr

/-- What limits the goal (R106, R118). -/
inductive Limiter where
  | none
  | curve
  | thermal
  | power
deriving DecidableEq, Repr

/-- A point of the curve table (R114). -/
structure CurvePoint where
  lux : Nat
  nits : Nat
deriving DecidableEq, Repr

/-- The brightness unit (R106). -/
structure BrightUnit where
  front : Nat
  top : Nat
  panel : Int
  frontFault : Bool
  topFault : Bool
  panelFault : Bool
  panelOpen : Bool
  ambient : Nat
  a16 : Nat
  curve : List CurvePoint
  mode : BrightMode
  offset : Int
  manual : Nat
  t0 : Nat
  t1 : Nat
  lTherm : Nat
  lPower : Nat
  goal : Nat
  limitedBy : Limiter
  c : Nat
  duty : Nat
  displaySetting : Bool
  display : Bool
  frozen : Bool
  stepDue : Instant
deriving DecidableEq, Repr

/-! ### Drop monitor (R131) -/

/-- Monitor states (07, table of monitor states). -/
inductive MonitorState where
  | starting
  | quiet
  | suspect
  | falling
  | impact
  | settling
  | offline
deriving DecidableEq, Repr

/-- The five thresholds as stored (R133). -/
structure Thresholds where
  freeFall : Nat
  run : Nat
  impact : Nat
  strike : Nat
  settle : Nat
deriving DecidableEq, Repr

/-- Kinds of impact (R156). -/
inductive ImpactKind where
  | drop
  | strike
deriving DecidableEq, Repr

/-- The impact window (R131, R146). -/
structure ImpactWindow where
  count : Nat
  kind : ImpactKind
  n : Nat
  firstHigh : Nat
  peakM : Nat
  peakSample : Accel
  clipped : Bool
deriving DecidableEq, Repr

/-- What the monitor holds in SETTLING (R131). -/
structure Settling where
  settleTimer : Instant
  capTimer : Instant
  q : Nat
  inBounce : Bool
  target : Nat
deriving DecidableEq, Repr

/-- An episode (R131). -/
structure Episode where
  records : List Nat
  continued : Bool
deriving DecidableEq, Repr

/-- STARTING: its timer, and the slot with its acceptance number of the PORT_RESET that began it (R131). -/
structure Starting where
  timer : Instant
  slot : Option (Nat × Nat)
deriving DecidableEq, Repr

/-- The drop monitor (R131). In IMPACT the frozen n stands in the window. -/
structure DropMonitor where
  state : MonitorState
  thresholds : Thresholds
  missing : Nat
  n : Option Nat
  r : Option Nat
  window : Option ImpactWindow
  settling : Option Settling
  episode : Option Episode
  guardTail : Option Instant
  starting : Option Starting
  sampleDue : Option Instant
deriving DecidableEq, Repr

/-! ### Impact store (R157, R158) -/

/-- Dominant axes (R138). -/
inductive Axis where
  | xPos
  | xNeg
  | yPos
  | yNeg
  | zPos
  | zNeg
deriving DecidableEq, Repr

/-- Severities (R139). -/
inductive Severity where
  | minor
  | major
  | severe
deriving DecidableEq, Repr

/-- Jolt outcomes (R157). -/
inductive JoltOutcome where
  | none
  | restored
  | lost
deriving DecidableEq, Repr

/-- Stamp outcomes (R157). -/
inductive StampOutcome where
  | none
  | pending
  | done
  | failed
deriving DecidableEq, Repr

/-- An impact record (R157). `peakM` is the squared magnitude that R148 and R149 compare; `closedAt` is the instant of
the close, from which R163 counts. -/
structure ImpactRecord where
  sequence : Nat
  uptime : Nat
  kind : ImpactKind
  n : Nat
  height : Nat
  peakM : Nat
  peak : Nat
  axis : Axis
  severity : Severity
  clipped : Bool
  bounces : Nat
  platform : Platform
  bayStateA : BayState
  bayStateB : BayState
  joltA : JoltOutcome
  joltB : JoltOutcome
  stampA : StampOutcome
  stampB : StampOutcome
  sensorLost : Bool
  isOpen : Bool
  closedUptime : Nat
  closedAt : Instant
  pinned : Bool
deriving DecidableEq, Repr

/-- The impact store (R158): 16 places, and the next sequence; a value above 4,294,967,295 is "exhausted" (R159). -/
structure ImpactStore where
  places : List (Option ImpactRecord)
  nextSequence : Nat
deriving DecidableEq, Repr

/-! ### Settings store (R197) -/

/-- The settings as a region of the copy holds them, before any check (R198; 13, SETTINGS STORE REGIONS). -/
structure StoredSettings where
  signature : BitVec 16
  regionCount : Nat
  pointCount : Nat
  points : List CurvePoint
  mode : Nat
  offset : Int
  manual : Nat
  freeFall : Nat
  run : Nat
  impact : Nat
  strike : Nat
  settle : Nat
  window : Nat
  enableA : Nat
  limitA : Nat
  enableB : Nat
  limitB : Nat
deriving DecidableEq, Repr

/-- Store states (R197). -/
inductive StoreState where
  | idle
  | loading
  | saving
deriving DecidableEq, Repr

/-- A save in flight (R197, R199). `acceptedAt` is an uptime in ms. -/
structure SaveInFlight where
  image : StoredSettings
  slot : Nat
  acceptance : Nat
  timer : Instant
  acceptedAt : Nat
deriving DecidableEq, Repr

/-- The settings store (R197). `load` is what the load in progress reads (assumption log 10). -/
structure SettingsStore where
  copy : StoredSettings
  state : StoreState
  save : Option SaveInFlight
  load : Option StoredSettings
deriving DecidableEq, Repr

/-! ### Notice unit (R188) -/

/-- Notice kinds (10, table of notice kinds). -/
inductive NoticeKind where
  | packSeated
  | packReady
  | packBarred
  | packRemoved
  | packLost
  | packJolted
  | releaseRefused
  | releaseExpired
  | latchFault
  | sourceChange
  | bridgeLow
  | bridgeCritical
  | brightLimited
  | fallStart
  | fallCaught
  | impact
  | sensorFault
  | settingsLoaded
  | settingsDefaulted
deriving DecidableEq, Repr

/-- A notice (10, THE NOTICE ENTRY). In the deferred set `sequence` is not yet given and stands 0. -/
structure Notice where
  sequence : Nat
  kind : NoticeKind
  bay : Option Bay
  uptime : Nat
  merged : Nat
  flags : Nat
  deferred : Bool
  payload : List Byte
deriving DecidableEq, Repr

/-- The notice unit (R188). -/
structure NoticeUnit where
  bottom : Nat
  top : Nat
  entries : List Notice
  counter : Nat
  deferred : List Notice
  news : Byte
  mask : Word
  attention : Bool
deriving DecidableEq, Repr

/-! ### Care port (R168) -/

/-- Port statuses (09, PORT OPERATIONS). -/
inductive PortStatus where
  | ok
  | refused
  | outOfRange
  | held
deriving DecidableEq, Repr

/-- What the part answers in a frame (13, PORT FRAMES). `reading` is the answer of a READ that is still in progress: the
bytes served so far, the address of the next one, and how many are left (R170). -/
inductive PortAnswer where
  | data (status : PortStatus) (bytes : List Byte)
  | reading (status : PortStatus) (served : List Byte) (addr left : Nat)
  | status (status : PortStatus)
  | word (original : Word) (flag : Bool) (status : PortStatus)
deriving DecidableEq, Repr

/-- The care port (R168) with the intake list of the dispatcher (R179). `memory` is care memory from 0x0020 on; the
header words are computed. `answer` is what the last frame was answered, if it was; a READ in progress stands there with what it has served. -/
structure CarePort where
  memory : List Host.Cell
  startUp : Bool
  careReset : Bool
  acceptance : List Nat
  intake : List Nat
  answer : Option PortAnswer
deriving DecidableEq, Repr

/-! ### The block -/

/-- The state of the block, and the queue of waiting commands. -/
structure State where
  clock : Instant
  pins : PinLevels
  port : CarePort
  notices : NoticeUnit
  bayA : BayContext
  bayB : BayContext
  swap : Option SwapContext
  swapWindow : Nat
  link : PackLink
  power : PowerUnit
  holds : HoldSet
  bright : BrightUnit
  drop : DropMonitor
  impact : ImpactStore
  settings : SettingsStore
  free : Nat
  pending : List Instr
deriving DecidableEq, Repr

/-! ### Reset values -/

/-- The pin levels of `State.reset`: nothing seated, pressed, plugged in or present (assumption log 8). -/
def PinLevels.idle : PinLevels :=
  { a := { contact := false, button := false, latch := .closed }
    b := { contact := false, button := false, latch := .closed }
    dcPresent := false
    hostPresent := false }

/-- The bay context at power-on reset with the sensor reading closed and the button released (R2), and the charge
settings at their defaults (R197). -/
def BayContext.powerOn : BayContext :=
  { state := .vacant
    latch := .closed
    latchTimer := none
    pathClosed := false
    descriptor := none
    gauge := none
    stale := false
    failedPolls := 0
    barred := none
    chargeEnable := true
    chargeLimit := 100
    seatingTimer := none
    pollDue := none
    jolt := none
    pressTimer := none
    releaseWait := false }

/-- The default curve (R114). -/
def defaultCurve : List CurvePoint :=
  [⟨0, 20⟩, ⟨50, 80⟩, ⟨1000, 300⟩, ⟨10000, 700⟩, ⟨40000, 1200⟩, ⟨80000, 1400⟩]

/-- The default thresholds (07, THRESHOLDS). -/
def defaultThresholds : Thresholds :=
  { freeFall := 350, run := 64, impact := 3000, strike := 6000, settle := 500 }

/-- The copy of a part whose settings were never saved: no valid signature (assumption log 9). -/
def StoredSettings.blank : StoredSettings :=
  { signature := 0, regionCount := 0, pointCount := 0, points := [], mode := 0, offset := 0, manual := 0
    freeFall := 0, run := 0, impact := 0, strike := 0, settle := 0
    window := 0, enableA := 0, limitA := 0, enableB := 0, limitB := 0 }

/-- The state right after a power-on reset, before the settings load has ended (R2, R27, R46, R70, R95, R107, R132,
R158, R168, R179, R188, R197). -/
def State.reset : State :=
  { clock := 0
    pins := PinLevels.idle
    port :=
      { memory := []
        startUp := true
        careReset := false
        acceptance := List.replicate 24 0
        intake := []
        answer := none }
    notices :=
      { bottom := 0, top := 0, entries := [], counter := 1, deferred := []
        news := 0, mask := 0, attention := false }
    bayA := BayContext.powerOn
    bayB := BayContext.powerOn
    swap := none
    swapWindow := 30
    link :=
      { state := .idle, waiting := [], inFlight := none, resetTimer := none, resetSlot := none, nextOrder := 0 }
    power :=
      { dc := none, debounce := none, samples := []
        pSys := 0, pBl := 0, lBase := 0
        mode := .bridge, supply := 12000, allowance := 440, headroom := 0
        chargeBridge := 0, chargeA := 0, chargeB := 0
        bridgeEnergy := 0
        episode := some { lowPosted := false, critical := false, runtime := 0 }
        hibernate := false
        platform := .off
        railDue := 40
        budgetDue := 400 }
    holds := { entries := [], storageGuard := false }
    bright :=
      { front := 0, top := 0, panel := 85
        frontFault := false, topFault := false, panelFault := false, panelOpen := false
        ambient := 0, a16 := 0
        curve := defaultCurve, mode := .auto, offset := 0, manual := 300
        t0 := 20, t1 := 20, lTherm := 20, lPower := 20, goal := 20
        limitedBy := .none
        c := 20, duty := 0
        displaySetting := false, display := false, frozen := false
        stepDue := 400 }
    drop :=
      { state := .starting, thresholds := defaultThresholds, missing := 0
        n := none, r := none, window := none, settling := none, episode := none
        guardTail := none
        starting := some { timer := 40, slot := none }
        sampleDue := none }
    impact := { places := List.replicate 16 none, nextSequence := 1 }
    settings :=
      { copy := StoredSettings.blank
        state := .loading
        save := none
        load := some StoredSettings.blank }
    free := 0
    pending := [] }

end Sys2Proof.Machine
end

