-- ==== Sys2Proof/Machine/Bytes.lean ====
section
/-! DEFINITION. Numbers as bytes and back, the arithmetic of 00 ARITHMETIC, the CRC of R30 and the integer square root of
R138. -/

namespace Sys2Proof.Machine

/-- A number as k bytes, little-endian; higher bits are dropped (00, BYTES AND WORDS). -/
def leBytes : Nat → Nat → List Byte
  | 0, _ => []
  | k + 1, n => BitVec.ofNat 8 n :: leBytes k (n / 256)

/-- A signed number as k bytes, two's complement (13). -/
def leSigned (k : Nat) (z : Int) : List Byte :=
  leBytes k (z % (256 ^ k : Nat)).toNat

/-- The number that bytes spell, little-endian. -/
def ofLe : List Byte → Nat
  | [] => 0
  | b :: bs => b.toNat + 256 * ofLe bs

/-- The signed number that k bytes spell, two's complement. -/
def ofLeSigned (bs : List Byte) : Int :=
  if 2 * ofLe bs < 256 ^ bs.length then (ofLe bs : Int) else (ofLe bs : Int) - (256 ^ bs.length : Nat)

/-- The field of `size` bytes at an offset of a record. -/
def field (record : List Byte) (offset size : Nat) : Nat :=
  ofLe ((record.drop offset).take size)

/-- The signed field of `size` bytes at an offset of a record. -/
def signedField (record : List Byte) (offset size : Nat) : Int :=
  ofLeSigned ((record.drop offset).take size)

/-- The first k bytes of a record, filled with zero bytes up to k: a byte that no field names is zero (13). -/
def padTo (k : Nat) (bs : List Byte) : List Byte :=
  bs.take k ++ List.replicate (k - bs.length) 0

/-- One byte holding a number below 256. -/
def byte (n : Nat) : Byte := BitVec.ofNat 8 n

/-- 1 for set and 0 for clear, as a bit of weight `2 ^ i`. -/
def flagBit (i : Nat) (b : Bool) : Nat := if b then 2 ^ i else 0

/-- Clamp to a range (00, ARITHMETIC). -/
def clamp (lo hi n : Nat) : Nat := if n < lo then lo else if hi < n then hi else n

/-- Clamp a signed value to a range (00, ARITHMETIC). -/
def clampInt (lo hi z : Int) : Int := if z < lo then lo else if hi < z then hi else z

/-- Division rounded up (00, ARITHMETIC). -/
def divUp (a b : Nat) : Nat := (a + b - 1) / b

/-- One bit of the CRC: the most significant bit first, generator 0x97 (R30). -/
def crcBit (crc : Byte) : Byte :=
  if crc.msb then (crc <<< 1) ^^^ 0x97 else crc <<< 1

/-- Eight bits of the CRC (R30). -/
def crcByte (crc b : Byte) : Byte :=
  crcBit (crcBit (crcBit (crcBit (crcBit (crcBit (crcBit (crcBit (crc ^^^ b))))))))

/-- CRC-8 of a frame's bytes, initial value 0x00, not inverted (R30). -/
def crc8 (bs : List Byte) : Byte := bs.foldl crcByte 0

/-- A frame: its bytes and then their CRC (R30). -/
def frame (bs : List Byte) : List Byte := bs ++ [crc8 bs]

/-- The digits of the integer square root from the bit of weight `2 ^ (k - 1)` down, above the part `r` found so far. -/
def isqrtFrom (m : Nat) : Nat → Nat → Nat
  | 0, r => r
  | k + 1, r =>
    if (r + 2 ^ k) * (r + 2 ^ k) ≤ m then isqrtFrom m k (r + 2 ^ k) else isqrtFrom m k r

/-- The integer square root of a number of up to 32 bits: the largest whole number whose square does not exceed it
(R138). -/
def isqrt (m : Nat) : Nat := isqrtFrom m 16 0

end Sys2Proof.Machine
end

