-- ==== Sys2Proof/Machine/Codes.lean ====
section
/-! DEFINITION. The codes that the tables of the manual give its names. -/

namespace Sys2Proof.Machine

/-- The other bay. -/
def otherBay : Bay → Bay
  | .a => .b
  | .b => .a

/-- A bay in a parameter or in answer data: 0 A, 1 B (13). -/
def bayCode : Bay → Nat
  | .a => 0
  | .b => 1

/-- The bay that a parameter names, if it names one. -/
def bayOfCode : Nat → Option Bay
  | 0 => some .a
  | 1 => some .b
  | _ => none

/-- A bay in a notice: 0 NONE, 1 A, 2 B (13). -/
def noticeBayCode : Option Bay → Nat
  | none => 0
  | some .a => 1
  | some .b => 2

/-- 01, BAY STATES. -/
def bayStateCode : BayState → Nat
  | .vacant => 0
  | .seating => 1
  | .reading => 2
  | .barred => 3
  | .online => 4
  | .releasing => 5
  | .jolted => 6

/-- 04, THE LATCH. -/
def latchCode : LatchState → Nat
  | .closed => 0
  | .opening => 1
  | .opened => 2
  | .closing => 3
  | .stuck => 4

/-- 01, jolt phases. -/
def joltPhaseCode : JoltPhase → Nat
  | .noContact => 0
  | .contactHold => 1
  | .serialCheck => 2

/-- R15, barred reasons. -/
def barredCode : BarredReason → Nat
  | .notAPack => 1
  | .badLayout => 2
  | .unsupported => 3
  | .badRating => 4
  | .duplicateSerial => 5
  | .noAnswer => 6
  | .packFault => 7

/-- 13, carrier. -/
def carrierCode : Carrier → Nat
  | .dc => 1
  | .bay .a => 2
  | .bay .b => 3
  | .bridge => 4

/-- 13, requester. -/
def requesterCode : Requester → Nat
  | .slot k _ => k
  | .button => 0xFE
  | .nobody => 0xFF

/-- R69, phases. -/
def phaseCode : Phase → Nat
  | .switching => 1
  | .unlatching => 2
  | .waiting => 3
  | .relatching => 4

/-- The answer reasons (R182). -/
inductive Reason where
  | none
  | badKind
  | badParam
  | badState
  | busy
  | guarded
  | full
  | tooLate
  | carryShort
  | noPack
  | notFound
  | pinLimit
  | packGone
  | linkError
  | portReset
  | storeFault
  | expired
  | fall
  | carrierLost
  | latchFault
deriving DecidableEq, Repr

/-- R182, reasons. -/
def reasonCode : Reason → Nat
  | .none => 0
  | .badKind => 1
  | .badParam => 2
  | .badState => 3
  | .busy => 4
  | .guarded => 5
  | .full => 6
  | .tooLate => 7
  | .carryShort => 8
  | .noPack => 9
  | .notFound => 10
  | .pinLimit => 11
  | .packGone => 12
  | .linkError => 13
  | .portReset => 14
  | .storeFault => 15
  | .expired => 16
  | .fall => 17
  | .carrierLost => 18
  | .latchFault => 19

/-- The answer reason of a release's abort reason (04, end reasons). -/
def abortReasonOf : AbortReason → Reason
  | .expired => .expired
  | .fall => .fall
  | .guarded => .guarded
  | .carrierLost => .carrierLost
  | .latchFault => .latchFault

/-- The answer statuses (R182). -/
inductive Status where
  | done
  | refused
  | cancelled
  | aborted
deriving DecidableEq, Repr

/-- R182, statuses. -/
def statusCode : Status → Nat
  | .done => 1
  | .refused => 2
  | .cancelled => 3
  | .aborted => 4

/-- R28, outcomes of a transaction. -/
def outcomeCode : LinkOutcome → Nat
  | .good => 0
  | .noAnswer => 1
  | .linkError => 2
  | .gone => 3
  | .abandoned => 4

/-- R45, supply modes. -/
def modeCode : SupplyMode → Nat
  | .dc => 0
  | .packs => 1
  | .bridge => 2

/-- R48, rating classes. -/
def dcClassCode : DcClass → Nat
  | .unknown => 0
  | .c45 => 1
  | .c65 => 2
  | .c90 => 3

/-- R48, the DC rating of a class, in mW. -/
def dcClassRating : DcClass → Nat
  | .unknown => 45000
  | .c45 => 45000
  | .c65 => 65000
  | .c90 => 90000

/-- R62, platform states. -/
def platformCode : Platform → Nat
  | .off => 0
  | .standby => 1
  | .run => 2

/-- The platform state that a parameter names, if it names one (R62). -/
def platformOfCode : Nat → Option Platform
  | 0 => some .off
  | 1 => some .standby
  | 2 => some .run
  | _ => none

/-- 05, kinds of hold entries. -/
def holdKindCode : HoldKind → Nat
  | .latch .a => 0
  | .latch .b => 1
  | .storage => 2
  | .brightFreeze => 3

/-- The kind that a parameter names, if it names one (R98). -/
def holdKindOfCode : Nat → Option HoldKind
  | 0 => some (.latch .a)
  | 1 => some (.latch .b)
  | 2 => some .storage
  | 3 => some .brightFreeze
  | _ => none

/-- 05, owners of hold entries. -/
def ownerCode : HoldOwner → Nat
  | .fall => 1
  | .swap => 2
  | .software => 3

/-- R106, modes. -/
def brightModeCode : BrightMode → Nat
  | .auto => 0
  | .manual => 1
  | .night => 2

/-- The mode that a parameter names, if it names one (R126). -/
def brightModeOfCode : Nat → Option BrightMode
  | 0 => some .auto
  | 1 => some .manual
  | 2 => some .night
  | _ => none

/-- R106, limited_by. -/
def limiterCode : Limiter → Nat
  | .none => 0
  | .curve => 1
  | .thermal => 2
  | .power => 3

/-- 07, monitor states. -/
def monitorCode : MonitorState → Nat
  | .starting => 0
  | .quiet => 1
  | .suspect => 2
  | .falling => 3
  | .impact => 4
  | .settling => 5
  | .offline => 6

/-- R156, kinds of impact. -/
def impactKindCode : ImpactKind → Nat
  | .drop => 1
  | .strike => 2

/-- R138, dominant axes. -/
def axisCode : Axis → Nat
  | .xPos => 1
  | .xNeg => 2
  | .yPos => 3
  | .yNeg => 4
  | .zPos => 5
  | .zNeg => 6

/-- R139, severities. -/
def severityCode : Severity → Nat
  | .minor => 1
  | .major => 2
  | .severe => 3

/-- R157, jolt outcomes. -/
def joltOutcomeCode : JoltOutcome → Nat
  | .none => 0
  | .restored => 1
  | .lost => 2

/-- R157, stamp outcomes. -/
def stampOutcomeCode : StampOutcome → Nat
  | .none => 0
  | .pending => 1
  | .done => 2
  | .failed => 3

/-- 10, notice kinds. -/
def noticeKindCode : NoticeKind → Nat
  | .packSeated => 1
  | .packReady => 2
  | .packBarred => 3
  | .packRemoved => 4
  | .packLost => 5
  | .packJolted => 6
  | .releaseRefused => 7
  | .releaseExpired => 8
  | .latchFault => 9
  | .sourceChange => 10
  | .bridgeLow => 11
  | .bridgeCritical => 12
  | .brightLimited => 13
  | .fallStart => 14
  | .fallCaught => 15
  | .impact => 16
  | .sensorFault => 17
  | .settingsLoaded => 18
  | .settingsDefaulted => 19

/-- 13, latch direction. -/
inductive LatchDirection where
  | toOpen
  | toClose
deriving DecidableEq, Repr

/-- 13, latch direction. -/
def directionCode : LatchDirection → Nat
  | .toOpen => 1
  | .toClose => 2

/-! The news bits (10, table of news bits). -/

/-- News bit SLOT_ANSWERED. -/
def newsSlotAnswered : Byte := 0x01
/-- News bit NOTICE. -/
def newsNotice : Byte := 0x02
/-- News bit DEFERRED. -/
def newsDeferred : Byte := 0x04
/-- News bit IMPACT. -/
def newsImpact : Byte := 0x08
/-- News bit BAY. -/
def newsBay : Byte := 0x10
/-- News bit POWER. -/
def newsPower : Byte := 0x20
/-- News bit MISUSE. -/
def newsMisuse : Byte := 0x40
/-- News bit SETTINGS. -/
def newsSettings : Byte := 0x80

end Sys2Proof.Machine
end

