-- ==== Sys2Proof/Machine/Memory.lean ====
section
/-! DEFINITION. Care memory as a list of (address, byte) pairs in one form: addresses strictly rising, below 0x2000, and
no zero byte listed. An unlisted address reads 0, which is what R168 sets every byte to. -/

namespace Sys2Proof.Machine

/-- A listed cell: inside care memory and not zero. -/
def Memory.cellOk (c : Host.Cell) : Bool := decide (c.1 < 0x2000) && (c.2 != 0)

/-- The one form: every cell is listed for a reason, and the addresses strictly rise. -/
def Memory.wf : List Host.Cell → Bool
  | [] => true
  | c :: cs => Memory.cellOk c && cs.all (fun d => decide (c.1 < d.1)) && Memory.wf cs

/-- The byte at an address. -/
def Memory.read (m : List Host.Cell) (addr : Nat) : Byte :=
  match m with
  | [] => 0
  | c :: cs => if c.1 = addr then c.2 else Memory.read cs addr

/-- The bytes from an address on. -/
def Memory.readBytes (m : List Host.Cell) (addr : Nat) : Nat → List Byte
  | 0 => []
  | k + 1 => Memory.read m addr :: Memory.readBytes m (addr + 1) k

/-- The little-endian number of `size` bytes at an address. -/
def Memory.readNat (m : List Host.Cell) (addr size : Nat) : Nat :=
  ofLe (Memory.readBytes m addr size)

/-- The cells that bytes stored from an address on take: those inside care memory that are not zero. -/
def Memory.cells (addr : Nat) : List Byte → List Host.Cell
  | [] => []
  | b :: bs =>
    if Memory.cellOk (addr, b) then (addr, b) :: Memory.cells (addr + 1) bs else Memory.cells (addr + 1) bs

/-- Store bytes from an address on; bytes beyond 0x1FFF are dropped (R172). -/
def Memory.write (m : List Host.Cell) (addr : Nat) (bs : List Byte) : List Host.Cell :=
  m.filter (fun c => decide (c.1 < addr)) ++ Memory.cells addr bs ++
    m.filter (fun c => decide (addr + bs.length ≤ c.1))

end Sys2Proof.Machine
end

