-- ==== Sys2Proof/Machine/Ops.lean ====
section
/-! DEFINITION. The named operations that every family of commands uses: time, the bay contexts, care memory, notices and
news, slots and their answers. -/

namespace Sys2Proof.Machine

/-! ### Time (00, TIME; assumption log 1) -/

/-- A duration in ms, on the clock. -/
def ms (n : Nat) : Nat := 4 * n

/-- The uptime at an instant: whole ms, 32 bits (00, TIME). -/
def uptimeOf (t : Instant) : Nat := t / 4 % 2 ^ 32

/-- The uptime. -/
def State.uptime (s : State) : Nat := uptimeOf s.clock

/-- The instant a number of ms from now. -/
def State.inMs (s : State) (n : Nat) : Instant := s.clock + ms n

/-- The state at an instant that has come: the clock moves on to it if it is not there yet. -/
def State.reach (s : State) (t : Instant) : State := { s with clock := max s.clock t }

/-- The state after one quarter millisecond in which nothing happens. -/
def State.tick (s : State) : State := { s with clock := s.clock + 1 }

/-! ### Bays -/

/-- The context of a bay. -/
def State.bay (s : State) : Bay → BayContext
  | .a => s.bayA
  | .b => s.bayB

/-- The state with the context of a bay replaced. -/
def State.setBay (s : State) (b : Bay) (c : BayContext) : State :=
  { s with
    bayA := match b with
      | .a => c
      | .b => s.bayA
    bayB := match b with
      | .a => s.bayB
      | .b => c }

/-- The pins of a bay. -/
def State.bayPins (s : State) : Bay → BayPins
  | .a => s.pins.a
  | .b => s.pins.b

/-- The state with the pins of a bay replaced. -/
def State.setBayPins (s : State) (b : Bay) (p : BayPins) : State :=
  { s with
    pins := { s.pins with
      a := match b with
        | .a => p
        | .b => s.pins.a
      b := match b with
        | .a => s.pins.b
        | .b => p } }

/-- The serial that a bay's notices carry (R4). -/
def State.serial (s : State) (b : Bay) : BitVec 64 :=
  match (s.bay b).descriptor with
  | some d => d.serial
  | none => 0

/-! ### Care memory -/

/-- Store bytes into care memory. -/
def State.store (s : State) (addr : Nat) (bs : List Byte) : State :=
  { s with port := { s.port with memory := Memory.write s.port.memory addr bs } }

/-- A block's own write into its area of care memory: none during a care reset (R186). -/
def State.blockStore (s : State) (addr : Nat) (bs : List Byte) : State :=
  { s with
    port := { s.port with
      memory := if s.port.careReset then s.port.memory else Memory.write s.port.memory addr bs } }

/-! ### News (R193) -/

/-- Set news bits. -/
def State.setNews (s : State) (bits : Byte) : State :=
  { s with notices := { s.notices with news := s.notices.news ||| bits } }

/-- Clear news bits. -/
def State.clearNews (s : State) (bits : Byte) : State :=
  { s with notices := { s.notices with news := s.notices.news &&& ~~~bits } }

/-! ### Free values (assumption log 12) -/

/-- The free value that the next draw gives. -/
def State.freeValue (s : State) : Nat := Config.freeValue s.free

/-- The state after a draw. -/
def State.draw (s : State) : State := { s with free := s.free + 1 }

/-! ### Notices (R188 to R192) -/

/-- The number of entries in the list (R188). -/
def NoticeUnit.listed (u : NoticeUnit) : Nat := (u.bottom + 32 - u.top) % 32

/-- The bytes of a notice entry (13, NOTICE ENTRY). -/
def noticeBytes (n : Notice) : List Byte :=
  leBytes 2 n.sequence ++ [byte (noticeKindCode n.kind), byte (noticeBayCode n.bay)] ++ leBytes 4 n.uptime ++
    [byte n.merged, byte (n.flags + flagBit 7 n.deferred)] ++ padTo 22 n.payload

/-- The address of an entry place of the notice list (09, CARE MEMORY). -/
def noticePlace (index : Nat) : Nat := 0x0800 + 32 * index

/-- The unit after appending a notice: it takes the counter's sequence, and the counter and NOTICE_BOTTOM rise (R190). -/
def NoticeUnit.append (u : NoticeUnit) (n : Notice) : NoticeUnit :=
  { u with
    entries := u.entries ++ [{ n with sequence := u.counter }]
    counter := (u.counter + 1) % 65536
    bottom := (u.bottom + 1) % 32
    news := u.news ||| newsNotice }

/-- Append a notice to the list, and write its entry place (R190). -/
def State.appendNotice (s : State) (n : Notice) : State :=
  { s.blockStore (noticePlace s.notices.bottom) (noticeBytes { n with sequence := s.notices.counter }) with
    notices := s.notices.append n }

/-- The deferred set with a notice deferred: merged into its kind's place, or joined at the end (R191). -/
def deferInto (n : Notice) : List Notice → List Notice
  | [] => [n]
  | d :: ds =>
    if d.kind = n.kind then { n with merged := min 255 (d.merged + 1) } :: ds else d :: deferInto n ds

/-- The unit after deferring a notice (R191). -/
def NoticeUnit.defer (u : NoticeUnit) (n : Notice) : NoticeUnit :=
  { u with deferred := deferInto n u.deferred, news := u.news ||| newsDeferred }

/-- Post a notice: append it while the list holds fewer than 31 entries, and defer it otherwise (R190, R191). -/
def State.post (s : State) (kind : NoticeKind) (bay : Option Bay) (flags : Nat) (payload : List Byte) : State :=
  let n : Notice :=
    { sequence := 0, kind := kind, bay := bay, uptime := s.uptime, merged := 1, flags := flags, deferred := false
      payload := payload }
  if s.notices.listed < 31 then s.appendNotice n else { s with notices := s.notices.defer n }

/-- Append deferred notices in first-deferral order while there is room (R192): at most `fuel` of them. -/
def State.flushDeferred (s : State) : Nat → State
  | 0 => s
  | fuel + 1 =>
    match s.notices.deferred with
    | [] => s
    | d :: ds =>
      if s.notices.listed < 31 then
        let s := { s with notices := { s.notices with deferred := ds } }
        (s.appendNotice { d with deferred := true }).flushDeferred fuel
      else s

/-- The read-index event: the entries up to the new top leave the list, and deferred notices take the room (R192). -/
def State.readIndex (s : State) (newTop : Nat) : State :=
  let freed := (newTop + 32 - s.notices.top) % 32
  let s := { s with
    notices := { s.notices with top := newTop, entries := s.notices.entries.drop freed } }
  if freed = 0 then s else s.flushDeferred s.notices.deferred.length

/-- The payload of a bay's notice: the serial first (13, NOTICE ENTRY). -/
def bayPayload (serial : BitVec 64) (rest : List Byte) : List Byte := leBytes 8 serial.toNat ++ rest

/-! ### Slots (R178, R182; 13, SLOT) -/

/-- Owner word values (09, REQUEST SLOTS). -/
def ownerEmpty : Nat := 0
/-- READY. -/
def ownerReady : Nat := 1
/-- ACCEPTED. -/
def ownerAccepted : Nat := 2
/-- ANSWERED. -/
def ownerAnswered : Nat := 3

/-- Where a slot begins (09, CARE MEMORY). -/
def slotBase (k : Nat) : Nat := 0x0200 + 64 * k

/-- A byte of a slot. -/
def State.slotByte (s : State) (k offset : Nat) : Nat :=
  (Memory.read s.port.memory (slotBase k + offset)).toNat

/-- A field of a slot. -/
def State.slotField (s : State) (k offset size : Nat) : Nat :=
  Memory.readNat s.port.memory (slotBase k + offset) size

/-- The owner word of a slot. -/
def State.slotOwner (s : State) (k : Nat) : Nat := s.slotField k 0 4

/-- The kind code of a slot. -/
def State.slotKind (s : State) (k : Nat) : Nat := s.slotByte k 4

/-- The flags byte of a slot. -/
def State.slotFlags (s : State) (k : Nat) : Nat := s.slotByte k 5

/-- The tag of a slot. -/
def State.slotTag (s : State) (k : Nat) : Nat := s.slotField k 6 2

/-- A parameter of a slot: `size` bytes at an offset of the parameter area (13, SLOT). -/
def State.param (s : State) (k offset size : Nat) : Nat := s.slotField k (8 + offset) size

/-- Write the owner word of a slot. -/
def State.setOwner (s : State) (k owner : Nat) : State := s.store (slotBase k) (leBytes 4 owner)

/-- The acceptance number of a slot (R168). -/
def State.acceptanceOf (s : State) (k : Nat) : Nat := s.port.acceptance.getD k 0

/-- READY to ACCEPTED: the acceptance number rises by 1 (R178). The manual gives it no width; here it has no upper end
(assumption log 48). -/
def State.accept (s : State) (k : Nat) : State :=
  let s := s.setOwner k ownerAccepted
  { s with port := { s.port with acceptance := s.port.acceptance.set k (s.acceptanceOf k + 1) } }

/-- Write an answer into a slot: status, reason, answer data and answered uptime, then ANSWERED; then hand
SLOT_ANSWERED unless the slot's NO_NEWS flag is set (R182). -/
def State.answer (s : State) (k : Nat) (status : Status) (reason : Reason) (data : List Byte) : State :=
  let noNews := s.slotFlags k % 2 = 1
  let s := s.store (slotBase k + 32)
    ([byte (statusCode status), byte (reasonCode reason), 0, 0] ++ padTo 24 data ++ leBytes 4 s.uptime)
  let s := s.setOwner k ownerAnswered
  if noNews then s else s.setNews newsSlotAnswered

/-- An owner's answer to work it accepted: written when the slot is ACCEPTED with the same acceptance number, and
discarded otherwise (R182). -/
def State.answerAccepted (s : State) (k acceptance : Nat) (status : Status) (reason : Reason) (data : List Byte) :
    State :=
  if s.slotOwner k = ownerAccepted ∧ s.acceptanceOf k = acceptance then s.answer k status reason data else s

end Sys2Proof.Machine
end

