-- ==== Sys2Proof/Machine/Flags.lean ====
section
/-! DEFINITION. The output lines that follow the news bits, the hold entries and the bridge marks, and the hold set's
counts and in-force marks. -/

namespace Sys2Proof.Machine

/-! ### Hold set counts (R94) -/

/-- The count of the entries of a kind (R94). -/
def HoldSet.count (h : HoldSet) (kind : HoldKind) : Nat :=
  (h.entries.filter (fun e => decide (e.kind = kind))).length

/-- The in-force mark of a kind: its count is above 0 (R94). -/
def HoldSet.inForce (h : HoldSet) (kind : HoldKind) : Bool := decide (0 < h.count kind)

/-- Whether an entry of this (kind, owner) pair is present (R96). -/
def HoldSet.holds (h : HoldSet) (kind : HoldKind) (owner : HoldOwner) : Bool :=
  h.entries.any (fun e => decide (e.kind = kind ∧ e.owner = owner))

/-! ### Lines -/

/-- Whether a news bit that is set has its mask bit set (R195). -/
def NoticeUnit.unmasked (u : NoticeUnit) : Bool := (u.news &&& u.mask.setWidth 8) != 0

/-- The level of ATTENTION (R195). -/
def State.attentionLevel (s : State) : Bool :=
  s.notices.unmasked && s.pins.hostPresent && (s.power.platform != .off)

/-- The level of STORAGE_GUARD (R103). -/
def State.storageGuardLevel (s : State) : Bool :=
  s.holds.inForce .storage && (s.power.platform != .off)

/-- Whether the bridge-critical mark is set (R61). -/
def PowerUnit.critical (p : PowerUnit) : Bool :=
  match p.episode with
  | some e => e.critical
  | none => false

/-- The level of HIBERNATE_REQUEST (R61, R63). -/
def State.hibernateLevel (s : State) : Bool := s.power.critical && (s.power.platform != .off)

/-- The state with STORAGE_GUARD, HIBERNATE_REQUEST and ATTENTION at their levels. A change of HIBERNATE_REQUEST sets
the news bit POWER (R61, R64), which ATTENTION then follows. -/
def State.driveLines (s : State) : State :=
  let s : State :=
    { s with
      holds := { s.holds with storageGuard := s.storageGuardLevel }
      power := { s.power with hibernate := s.hibernateLevel }
      notices := { s.notices with
        news := if s.hibernateLevel = s.power.hibernate then s.notices.news else s.notices.news ||| newsPower } }
  { s with notices := { s.notices with attention := s.attentionLevel } }

/-! ### Notice flags (13, NOTICE ENTRY) -/

/-- During-fall and during-impact: whether the hold set holds a FALL entry for the latch of a bay (R86, R87). -/
def State.fallHeld (s : State) (b : Bay) : Bool := s.holds.holds (.latch b) .fall

/-- Whether the drop monitor is FALLING, IMPACT or SETTLING (R8, R87). -/
def State.inFall (s : State) : Bool :=
  match s.drop.state with
  | .falling => true
  | .impact => true
  | .settling => true
  | _ => false

end Sys2Proof.Machine
end

