-- ==== Sys2Proof/Machine/LivePage.lean ====
section
/-! DEFINITION. What the host sees of the blocks: the live page sections and the impact store places (09, THE LIVE PAGE;
13), with the rewrite of a place at each change of the store, and the end of every command, at which the lines are driven
and the changed sections are rewritten. -/

namespace Sys2Proof.Machine

/-! ### Section bodies (13, LIVE PAGE SECTIONS) -/

/-- A deadline as the host sees it: its uptime, and 0 when the timer is absent. -/
def deadline (t : Option Instant) : Nat :=
  match t with
  | some d => uptimeOf d
  | none => 0

/-- The DC rating in mW, 0 when the DC state is ABSENT (R45, R48). -/
def PowerUnit.dcRating (p : PowerUnit) : Nat :=
  match p.dc with
  | some c => dcClassRating c
  | none => 0

/-- The rating class code, 0 when the DC state is ABSENT (R64). -/
def PowerUnit.dcCode (p : PowerUnit) : Nat :=
  match p.dc with
  | some c => dcClassCode c
  | none => 0

/-- runtime_s, 0 outside an episode (R64). -/
def PowerUnit.runtime (p : PowerUnit) : Nat :=
  match p.episode with
  | some e => e.runtime
  | none => 0

/-- Whether the bridge-low-posted mark is set (R60). -/
def PowerUnit.lowPosted (p : PowerUnit) : Bool :=
  match p.episode with
  | some e => e.lowPosted
  | none => false

/-- The body of the sources section (R64; 13). -/
def sourcesBody (p : PowerUnit) : List Byte :=
  [byte (if p.dc.isSome then 1 else 0), byte p.dcCode, byte (modeCode p.mode), byte (platformCode p.platform)] ++
    leBytes 4 p.dcRating ++ leBytes 4 p.pSys ++ leBytes 4 p.pBl ++ leBytes 4 p.lBase ++ leBytes 4 p.supply ++
    leBytes 4 p.allowance ++ leBytes 4 p.headroom ++ leBytes 4 p.chargeBridge ++ leBytes 4 p.chargeA ++
    leBytes 4 p.chargeB ++ leBytes 4 p.bridgeEnergy ++ leBytes 4 p.runtime ++
    [byte (flagBit 0 p.lowPosted + flagBit 1 p.critical + flagBit 2 p.hibernate)]

/-- The swap context, when it is a bay's (R69). -/
def State.swapOf (s : State) (b : Bay) : Option SwapContext :=
  match s.swap with
  | some w => if w.bay = b then some w else none
  | none => none

/-- Bytes 39 to 55 of a bay section: the swap context, or zeros (R69; 13). -/
def swapBody (w : Option SwapContext) : List Byte :=
  match w with
  | none => List.replicate 17 0
  | some w =>
    [byte (phaseCode w.phase), byte (requesterCode w.requester), byte (carrierCode w.carrier),
      byte (match w.abortReason with
        | some r => reasonCode (abortReasonOf r)
        | none => 0),
      byte (flagBit 0 w.cancelRequested + flagBit 1 w.pathReclosed)] ++
    leBytes 4 (deadline w.windowTimer) ++ leBytes 4 w.need ++ leBytes 4 w.best

/-- The body of a bay section (R1; 13). A field that is absent shows as zero. -/
def bayBody (c : BayContext) (w : Option SwapContext) : List Byte :=
  [byte (bayStateCode c.state), byte (latchCode c.latch), byte (if c.pathClosed then 1 else 0),
    byte (match c.jolt with
      | some j => joltPhaseCode j.phase
      | none => 0),
    byte (match c.barred with
      | some r => barredCode r
      | none => 0)] ++
  (match c.descriptor with
    | some d => [byte d.chemistry, byte d.series, d.marks] ++ leBytes 8 d.serial.toNat
    | none => List.replicate 11 0) ++
  (match c.gauge with
    | some g => leBytes 2 g.voltage ++ leSigned 2 g.current ++ leBytes 4 g.remaining ++ leBytes 4 g.full ++
        leSigned 2 g.temperature ++ [g.flags, byte g.charge]
    | none => List.replicate 16 0) ++
  [byte c.failedPolls, byte c.chargeLimit,
    byte (flagBit 0 c.stale + flagBit 1 c.chargeEnable + flagBit 2 (match c.jolt with
      | some j => j.expired
      | none => false))] ++
  swapBody w ++
  (match c.descriptor with
    | some d => leBytes 2 d.shockCount ++ [byte d.lastSeverity, 0] ++ leBytes 2 d.lastSequence ++
        leBytes 2 d.cycles ++ [byte d.health, 0] ++ leBytes 2 d.chargeVoltage
    | none => [])

/-- A, the filtered ambient light: A16 ÷ 16 (R106). -/
def BrightUnit.filtered (u : BrightUnit) : Nat := u.a16 / 16

/-- The body of the brightness section (13). -/
def brightBody (u : BrightUnit) : List Byte :=
  leBytes 4 u.front ++ leBytes 4 u.top ++ leBytes 4 u.ambient ++ leBytes 4 u.a16 ++ leBytes 4 u.filtered ++
    leSigned 1 u.panel ++
    [byte (flagBit 0 u.frontFault + flagBit 1 u.topFault + flagBit 2 u.panelFault + flagBit 3 u.panelOpen),
      byte (brightModeCode u.mode)] ++
    leSigned 1 u.offset ++ leBytes 2 u.manual ++ leBytes 2 u.t0 ++ leBytes 2 u.t1 ++ leBytes 2 u.lTherm ++
    leBytes 2 u.lPower ++ leBytes 2 u.goal ++ leBytes 2 u.c ++ leBytes 2 u.duty ++
    [byte (limiterCode u.limitedBy), byte u.curve.length,
      byte (flagBit 0 u.displaySetting + flagBit 1 u.display + flagBit 2 u.frozen)]

/-- The strike threshold in use: the larger of the stored strike and impact thresholds (R133). -/
def Thresholds.strikeInUse (t : Thresholds) : Nat := max t.strike t.impact

/-- n as the live page shows it: frozen in the window in IMPACT, 0 where absent (R131, R156). -/
def DropMonitor.shownN (d : DropMonitor) : Nat :=
  match d.window with
  | some w => w.n
  | none => d.n.getD 0

/-- The episode's record list, empty when no episode exists (R131). -/
def DropMonitor.records (d : DropMonitor) : List Nat :=
  match d.episode with
  | some e => e.records
  | none => []

/-- The episode's continued mark, clear when no episode exists (R131). -/
def DropMonitor.continued (d : DropMonitor) : Bool :=
  match d.episode with
  | some e => e.continued
  | none => false

/-- The body of the drop monitor section (R156; 13). -/
def dropBody (d : DropMonitor) : List Byte :=
  [byte (monitorCode d.state), byte d.missing, byte (flagBit 0 d.episode.isSome + flagBit 1 d.continued),
    byte (match d.window with
      | some w => impactKindCode w.kind
      | none => 0)] ++
  leBytes 2 d.thresholds.freeFall ++ leBytes 2 d.thresholds.run ++ leBytes 2 d.thresholds.impact ++
  leBytes 2 d.thresholds.strike ++ leBytes 2 d.thresholds.strikeInUse ++ leBytes 2 d.thresholds.settle ++
  leBytes 2 d.shownN ++ [byte (d.r.getD 0), 0] ++
  leBytes 2 (match d.settling with
    | some g => g.q
    | none => 0) ++
  [byte d.records.length, 0] ++
  leBytes 4 (match d.window with
    | some w => w.firstHigh
    | none => 0) ++
  (match d.settling with
    | some g => leBytes 4 g.target ++ leBytes 4 (uptimeOf g.settleTimer) ++ leBytes 4 (uptimeOf g.capTimer)
    | none => List.replicate 12 0) ++
  leBytes 4 (deadline d.guardTail) ++ leBytes 4 (d.records.getD 0 0) ++ leBytes 4 (d.records.getD 1 0)

/-- An entry of the hold set section: kind, owner, created uptime, expiry, 0 when none (R105; 13). -/
def holdEntryBytes (e : HoldEntry) : List Byte :=
  [byte (holdKindCode e.kind), byte (ownerCode e.owner)] ++ leBytes 4 e.created ++ leBytes 4 (deadline e.expiry)

/-- The body of the hold set section (R105; 13). -/
def holdBody (h : HoldSet) : List Byte :=
  [byte h.entries.length, byte (h.count (.latch .a)), byte (h.count (.latch .b)), byte (h.count .storage),
    byte (h.count .brightFreeze),
    byte (flagBit 0 (h.inForce (.latch .a)) + flagBit 1 (h.inForce (.latch .b)) + flagBit 2 (h.inForce .storage) +
      flagBit 3 (h.inForce .brightFreeze)),
    byte (flagBit 0 h.storageGuard), 0] ++
  (h.entries.map holdEntryBytes).flatten

/-- The fields of an impact store place after its write count; a free place shows zeros (R167; 13). -/
def placeBody (r : Option ImpactRecord) : List Byte :=
  match r with
  | none => []
  | some r =>
    leBytes 4 r.sequence ++ leBytes 4 r.uptime ++ leBytes 4 r.closedUptime ++
    [byte (impactKindCode r.kind), byte (severityCode r.severity), byte (axisCode r.axis), byte r.bounces] ++
    leBytes 2 r.n ++ leBytes 2 r.height ++ leBytes 2 r.peak ++
    [byte (platformCode r.platform), byte (bayStateCode r.bayStateA), byte (bayStateCode r.bayStateB),
      byte (joltOutcomeCode r.joltA), byte (joltOutcomeCode r.joltB), byte (stampOutcomeCode r.stampA),
      byte (stampOutcomeCode r.stampB),
      byte (flagBit 0 r.clipped + flagBit 1 r.sensorLost + flagBit 2 r.isOpen + flagBit 3 r.pinned)]

/-! ### Rewrites (R167, R177) -/

/-- Care memory with a live page section rewritten `n` times in one command: at each rewrite both counts go on by 2 and are
equal, and the last body lies between them (R177). -/
def rewriteSection (m : List Host.Cell) (base size : Nat) (body : List Byte) (n : Nat) : List Host.Cell :=
  Memory.write m base
    (leBytes 4 (Memory.readNat m (base + size - 4) 4 + 2 * n) ++ padTo (size - 8) body ++
      leBytes 4 (Memory.readNat m (base + size - 4) 4 + 2 * n))

/-- Where an impact store place begins (09, CARE MEMORY). -/
def placeBase (i : Nat) : Nat := 0x0C00 + 64 * i

/-- Care memory with an impact store place rewritten: its write count goes on by 2 (R167). -/
def rewritePlace (m : List Host.Cell) (i : Nat) (r : Option ImpactRecord) : List Host.Cell :=
  Memory.write m (placeBase i) (leBytes 4 (Memory.readNat m (placeBase i) 4 + 2) ++ padTo 60 (placeBody r))

/-- The first address of a bay's live page section (09, CARE MEMORY). -/
def bayBase : Bay → Nat
  | .a => 0x0080
  | .b => 0x00D0

/-- Which sections a command rewrites whether or not what they show has changed: one block's, `all` of them (R187, R201),
or the impact store `places` (R167). -/
structure Rewrites where
  sources : Bool := false
  bright : Bool := false
  drop : Bool := false
  all : Bool := false
  places : Bool := false
deriving DecidableEq, Repr

/-- Whether a bay's section is to be rewritten: a field of the bay context or of its swap context has changed (R1, R69). -/
def bayChanged (before after : State) (b : Bay) : Bool :=
  before.bay b != after.bay b || before.swapOf b != after.swapOf b

/-- Whether the drop monitor's section is to be rewritten: the monitor state, the guard tail timer's presence or the
thresholds have changed (R156). -/
def dropChanged (before after : State) : Bool :=
  before.drop.state != after.drop.state || before.drop.guardTail.isSome != after.drop.guardTail.isSome ||
    before.drop.thresholds != after.drop.thresholds

/-- How many changes of the hold set lie between two of its states: each entry that has left, has come, or has another
expiry, and the change of STORAGE_GUARD (R96, R97, R98, R105). -/
def HoldSet.changes (before after : HoldSet) : Nat :=
  (before.entries.filter (fun e => !after.entries.contains e)).length +
    (after.entries.filter (fun e => !before.holds e.kind e.owner)).length +
    (if before.storageGuard = after.storageGuard then 0 else 1)

/-- How often the hold set's section is rewritten: once for each change (R96, R97, R105), and at the events that rewrite
every section. -/
def holdRewrites (all : Bool) (before after : HoldSet) : Nat :=
  max (if all || before != after then 1 else 0) (before.changes after)

/-- Care memory with a section rewritten a number of times. -/
def rewriteTimes (n base size : Nat) (body : List Byte) (m : List Host.Cell) : List Host.Cell :=
  if n = 0 then m else rewriteSection m base size body n

/-- Care memory with a section rewritten if a condition holds. -/
def rewriteIf (c : Bool) (base size : Nat) (body : List Byte) (m : List Host.Cell) : List Host.Cell :=
  rewriteTimes c.toNat base size body m

/-- Care memory with the impact store places from place `i` on rewritten where they have changed, or all of them (R167). An
amendment or a jolt outcome that the store takes and that leaves the record as it was rewrites no place: R160 and R163 say
that the place is rewritten, and R167 says so of one "that changes it" (DESIGN CHOICE, assumption log 7). -/
def rewritePlaces (all : Bool) (before : List (Option ImpactRecord)) :
    Nat → List (Option ImpactRecord) → List Host.Cell → List Host.Cell
  | _, [], m => m
  | i, r :: rs, m =>
    rewritePlaces all before (i + 1) rs (if all || before.getD i none != r then rewritePlace m i r else m)

/-- The impact store as something that is handed to it leaves it: an opening, an amendment, a stamp outcome, a jolt outcome,
the settling end of a record, a pin, an unpin or a clear. Each place that it changes is rewritten there and then, once for
each hand-over (R167; assumption log 7), and nothing is written during a care reset (R158). -/
def State.putImpact (s : State) (u : ImpactStore) : State :=
  { s with
    impact := u
    port := { s.port with
      memory :=
        if s.port.careReset then s.port.memory
        else rewritePlaces false s.impact.places 0 u.places s.port.memory } }

/-- All places rewritten, when a care reset ends (R158, R167). -/
def rewriteAllPlaces (c : Bool) (places : List (Option ImpactRecord)) (m : List Host.Cell) : List Host.Cell :=
  if c then rewritePlaces true [] 0 places m else m

/-- Care memory after the rewrites that the end of a command calls for: the hold set's section once for each change, every
other section at most once (assumption log 7), and at the end of a care reset the places of the impact store, which are
rewritten at each hand-over otherwise. -/
def refreshed (before : State) (w : Rewrites) (s : State) : List Host.Cell :=
  rewriteAllPlaces w.places s.impact.places
    (rewriteTimes (holdRewrites w.all before.holds s.holds) 0x01A0 96 (holdBody s.holds)
    (rewriteIf (w.all || w.drop || dropChanged before s) 0x0160 64 (dropBody s.drop)
    (rewriteIf (w.all || w.bright || before.bright != s.bright) 0x0120 64 (brightBody s.bright)
    (rewriteIf (w.all || bayChanged before s .b) (bayBase .b) 80 (bayBody s.bayB (s.swapOf .b))
    (rewriteIf (w.all || bayChanged before s .a) (bayBase .a) 80 (bayBody s.bayA (s.swapOf .a))
    (rewriteIf (w.all || w.sources || sourcesBody before.power != sourcesBody s.power) 0x0040 64
      (sourcesBody s.power) s.port.memory))))))

/-- The state with its live page sections rewritten, and all impact store places if called for; nothing is written during a care reset (R186). -/
def State.refresh (before : State) (w : Rewrites) (s : State) : State :=
  { s with
    port := { s.port with
      memory := if s.port.careReset then s.port.memory else refreshed before w s } }

/-- The end of a command: the lines take their levels and the sections are rewritten. -/
def finishWith (w : Rewrites) (before after : State) : Host.Outcome State Fault Refusal :=
  .next (State.refresh before w after.driveLines)

/-- The end of a command that rewrites what has changed. -/
def finish (before after : State) : Host.Outcome State Fault Refusal := finishWith {} before after

end Sys2Proof.Machine
end

