-- ==== Sys2Proof/Machine/LinkQueue.lean ====
section
/-! DEFINITION. The pack link's job queue: joining, the arbiter, and the start of a transaction (R27, R28, R32, R33,
R36). -/

namespace Sys2Proof.Machine

/-- The class of a job (02, THE JOB QUEUE). -/
def Work.class : Work → Nat
  | .identFull _ => 1
  | .identSerial => 1
  | .stamp _ _ => 2
  | .gauge => 3
  | .query _ _ _ _ => 4

/-- Whether a job is a GAUGE job. -/
def Work.isGauge : Work → Bool
  | .gauge => true
  | _ => false

/-- Whether a job is a STAMP job. -/
def Work.isStamp : Work → Bool
  | .stamp _ _ => true
  | _ => false

/-- Whether a job is a QUERY job. -/
def Work.isQuery : Work → Bool
  | .query _ _ _ _ => true
  | _ => false

/-- The records that a STAMP job names, covered ones first (R36). -/
def Work.stampItems : Work → List StampItem
  | .stamp covered followOn => covered ++ followOn
  | _ => []

/-! ### The arbiter (R33) -/

/-- Whether a job is a full IDENT that returns between two of its region reads (R33). -/
def Work.begun : Work → Bool
  | .identFull regions => !regions.isEmpty
  | _ => false

/-- What decides between two IDENT jobs with the same queuing uptime: the one that has begun its region reads goes on,
since two IDENT jobs do not interleave (R14, R33); with none begun the bay decides (R33 point 3). That the first of the
two goes before the second is assumption log 39. -/
def Job.tie (j : Job) : Nat :=
  if j.work.class = 1 then (if j.work.begun then 0 else 2) + bayCode j.bay else 0

/-- Whether the arbiter chooses the first job before the second: class, queuing uptime, between two IDENT jobs the one
already begun and then bay A's (assumption log 39), join order (R33). -/
def Job.sooner (j k : Job) : Bool :=
  decide (j.work.class < k.work.class) ||
    (decide (j.work.class = k.work.class) &&
      (decide (j.queuedAt < k.queuedAt) ||
        (decide (j.queuedAt = k.queuedAt) &&
          (decide (j.tie < k.tie) || (decide (j.tie = k.tie) && decide (j.order < k.order))))))

/-- The job that the arbiter chooses (R33). -/
def soonest : List Job → Option Job
  | [] => none
  | j :: js =>
    match soonest js with
    | none => some j
    | some k => if k.sooner j then some k else some j

/-! ### Transactions (R28, R37; 13, PACK-WIRE FRAMES) -/

/-- The descriptor's shock count, 0 without a descriptor. -/
def BayContext.shockCount (c : BayContext) : Nat :=
  match c.descriptor with
  | some d => d.shockCount
  | none => 0

/-- The newest record of a covered list: the last one (R36, R37). -/
def newestItem (covered : List StampItem) : StampItem :=
  covered.getLastD { sequence := 0, severity := 0 }

/-- The values that a stamp of a covered list stores (R37). -/
def stampValues (c : BayContext) (covered : List StampItem) : StampValues :=
  { count := min 65535 (c.shockCount + covered.length)
    severity := (newestItem covered).severity
    sequence := (newestItem covered).sequence % 65536 }

/-- The stamp values of a job's transaction, fixed at its start (R37). -/
def Work.stampValues (w : Work) (c : BayContext) : Option StampValues :=
  match w with
  | .stamp covered _ => some (Sys2Proof.Machine.stampValues c covered)
  | _ => none

/-- The region that a job's REGION_READ reads, 0 for the other jobs (R14, R34, R39). -/
def Work.region : Work → Nat
  | .identFull regions => regions.length
  | .query _ _ region _ => region
  | _ => 0

/-- The bytes of a REGION_READ request before its CRC (13). -/
def regionReadBytes (b : Bay) (region : Nat) : List Byte := [0x31, byte (bayCode b), byte region]

/-- The bytes of a GAUGE_READ request before its CRC (13). -/
def gaugeReadBytes (b : Bay) : List Byte := [0x32, byte (bayCode b)]

/-- The bytes of a STAMP_WRITE request before its CRC: the 8 bytes of region 3, the last three zero (R37; 13). -/
def stampWriteBytes (b : Bay) (v : StampValues) : List Byte :=
  [0x33, byte (bayCode b)] ++ leBytes 2 v.count ++ [byte v.severity] ++ leBytes 2 v.sequence ++ [0, 0, 0]

/-- The request frame of a job (R28, R30; 13). -/
def requestFrame (j : Job) (v : Option StampValues) : List Byte :=
  frame (match j.work with
    | .stamp _ _ => stampWriteBytes j.bay (v.getD { count := 0, severity := 0, sequence := 0 })
    | .gauge => gaugeReadBytes j.bay
    | _ => regionReadBytes j.bay j.work.region)

/-- How long the request frame takes, in ms (R28). -/
def Work.requestMs (w : Work) : Nat := if w.isStamp then 3 else 1

/-- The transaction that a job starts at an instant (R28). -/
def startTransaction (clock : Instant) (j : Job) (c : BayContext) : Transaction :=
  { job := j
    request := requestFrame j (j.work.stampValues c)
    attempt := 1
    startedAt := uptimeOf clock
    phase := .sending (clock + ms j.work.requestMs)
    stamp := j.work.stampValues c
    discard := false }

/-- The chosen job leaves the waiting ones, the link becomes BUSY and the transaction starts (R28). -/
def State.startJob (s : State) (j : Job) : State :=
  { s with
    link := { s.link with
      state := .busy
      waiting := s.link.waiting.erase j
      inFlight := some (startTransaction s.clock j (s.bay j.bay)) } }

/-- The arbiter, when the wire is free: it starts a waiting job, or the link becomes IDLE (R33). With a transaction in
flight or during RESETTING the wire is not free. -/
def State.arbitrate (s : State) : State :=
  if s.link.inFlight.isSome || decide (s.link.state = .resetting) then s
  else
    match soonest s.link.waiting with
    | some j => s.startJob j
    | none => { s with link := { s.link with state := .idle } }

/-- A job joins the queue, WAITING; with the link IDLE the arbiter chooses at once (R32, R33; assumption log 16, 17). -/
def State.join (s : State) (b : Bay) (w : Work) : State :=
  let joined : State :=
    { s with
      link := { s.link with
        waiting := s.link.waiting ++ [{ bay := b, work := w, queuedAt := s.clock / 4, order := s.link.nextOrder }]
        nextOrder := s.link.nextOrder + 1 } }
  if s.link.state = .idle then joined.arbitrate else joined

/-- The job in flight, if there is one. -/
def PackLink.flying (l : PackLink) : Option Job :=
  match l.inFlight with
  | some t => some t.job
  | none => none

/-- All jobs present, the one in flight first (R32). -/
def PackLink.jobs (l : PackLink) : List Job := l.flying.toList ++ l.waiting

/-- Whether a GAUGE job for a bay is queued or in flight (R20). -/
def PackLink.hasGauge (l : PackLink) (b : Bay) : Bool :=
  l.jobs.any (fun j => decide (j.bay = b) && j.work.isGauge)

/-- The number of QUERY jobs present (R32, R38). -/
def PackLink.queries (l : PackLink) : Nat := (l.jobs.filter (fun j => j.work.isQuery)).length

/-! ### Handing a record for stamping (R36) -/

/-- A record added to the end of a waiting STAMP job's covered list (R36). -/
def Work.cover (w : Work) (i : StampItem) : Work :=
  match w with
  | .stamp covered followOn => .stamp (covered ++ [i]) followOn
  | w => w

/-- A record added to the end of an in-flight STAMP job's follow-on list (R36). -/
def Work.follow (w : Work) (i : StampItem) : Work :=
  match w with
  | .stamp covered followOn => .stamp covered (followOn ++ [i])
  | w => w

/-- Whether a job is the STAMP job of a bay. -/
def Job.stampsBay (j : Job) (b : Bay) : Bool := decide (j.bay = b) && j.work.isStamp

/-- The link after a record joins the STAMP job that the bay has (R36). -/
def PackLink.addStamp (l : PackLink) (b : Bay) (i : StampItem) : PackLink :=
  { l with
    inFlight := match l.inFlight with
      | some t => some (if t.job.stampsBay b then { t with job := { t.job with work := t.job.work.follow i } } else t)
      | none => none
    waiting := l.waiting.map (fun j => if j.stampsBay b then { j with work := j.work.cover i } else j) }

/-- A record is handed to the pack link for a bay (R36). -/
def State.handStamp (s : State) (b : Bay) (i : StampItem) : State :=
  if s.link.jobs.any (fun j => j.stampsBay b) then { s with link := s.link.addStamp b i }
  else s.join b (.stamp [i] [])

end Sys2Proof.Machine
end

