-- ==== Sys2Proof/Machine/ImpactStore.lean ====
section
/-! DEFINITION. The impact store: records, amendments, stamp and jolt outcomes, and the settling end (R157 to R163). -/

namespace Sys2Proof.Machine

/-! ### Reading the store -/

/-- The records in the store, in place order. -/
def ImpactStore.records (u : ImpactStore) : List ImpactRecord := u.places.filterMap id

/-- The record count (08, answer data). -/
def ImpactStore.recordCount (u : ImpactStore) : Nat := u.records.length

/-- The pinned count (R158). -/
def ImpactStore.pinnedCount (u : ImpactStore) : Nat := (u.records.filter (·.pinned)).length

/-- The open count (R158). -/
def ImpactStore.openCount (u : ImpactStore) : Nat := (u.records.filter (·.isOpen)).length

/-- The record with a sequence. -/
def ImpactStore.record (u : ImpactStore) (sequence : Nat) : Option ImpactRecord :=
  u.records.find? (fun r => decide (r.sequence = sequence))

/-- The record of a list with the greatest sequence (R163). -/
def newestOf : List ImpactRecord → Option ImpactRecord
  | [] => none
  | r :: rs =>
    match newestOf rs with
    | none => some r
    | some q => if r.sequence < q.sequence then some q else some r

/-- The record of a list with the least sequence (R159). -/
def oldestOf : List ImpactRecord → Option ImpactRecord
  | [] => none
  | r :: rs =>
    match oldestOf rs with
    | none => some r
    | some q => if q.sequence < r.sequence then some q else some r

/-- The newest open record: the target of a fold (R148). -/
def ImpactStore.newestOpen (u : ImpactStore) : Option ImpactRecord := newestOf (u.records.filter (·.isOpen))

/-- The record that an opening evicts from a full store: the oldest neither pinned nor open (R159). -/
def ImpactStore.evictable (u : ImpactStore) : Option ImpactRecord :=
  oldestOf (u.records.filter (fun r => !r.pinned && !r.isOpen))

/-! ### Changing the store -/

/-- The store with the record of a sequence changed. -/
def ImpactStore.update (u : ImpactStore) (sequence : Nat) (f : ImpactRecord → ImpactRecord) : ImpactStore :=
  { u with
    places := u.places.map (fun p =>
      match p with
      | some r => some (if r.sequence = sequence then f r else r)
      | none => none) }

/-- The place that a new record takes: the lowest free one, or the evicted record's in a full store (R159). -/
def ImpactStore.openPlace (u : ImpactStore) : Option Nat :=
  match u.places.findIdx? (·.isNone) with
  | some i => some i
  | none =>
    match u.evictable with
    | some e => u.places.findIdx? (fun p => decide (p = some e))
    | none => none

/-- The sequence that an opening returns: 0 when the counter is exhausted (R159). -/
def ImpactStore.openSequence (u : ImpactStore) : Nat :=
  if 4294967295 < u.nextSequence then 0 else u.nextSequence

/-- The store after an opening of a record with these fields (R159). With the counter exhausted, or with no place to take,
which the limits of R158 rule out, it stays as it is (assumption log 29). -/
def ImpactStore.openRecord (u : ImpactStore) (r : ImpactRecord) : ImpactStore :=
  if 4294967295 < u.nextSequence then u
  else
    match u.openPlace with
    | some i =>
      { places := u.places.set i (some { r with sequence := u.nextSequence })
        nextSequence := u.nextSequence + 1 }
    | none => u

/-- An amendment of the record of a sequence: taken while it is present and open (R160). -/
def State.amend (s : State) (sequence : Nat) (f : ImpactRecord → ImpactRecord) : State :=
  s.putImpact (s.impact.update sequence (fun r => if r.isOpen then f r else r))

/-- The record at its close (R162). -/
def ImpactRecord.close (r : ImpactRecord) (now : Instant) : ImpactRecord :=
  { r with isOpen := false, closedUptime := uptimeOf now, closedAt := now }

/-- Whether a stamp outcome of the record is PENDING (R161, R162). -/
def ImpactRecord.stamping (r : ImpactRecord) : Bool :=
  decide (r.stampA = .pending) || decide (r.stampB = .pending)

/-- The stamp outcome of a record for a bay. -/
def ImpactRecord.stampOf (r : ImpactRecord) : Bay → StampOutcome
  | .a => r.stampA
  | .b => r.stampB

/-- The record with its stamp outcome for a bay replaced. -/
def ImpactRecord.setStamp (r : ImpactRecord) (b : Bay) (o : StampOutcome) : ImpactRecord :=
  { r with
    stampA := match b with
      | .a => o
      | .b => r.stampA
    stampB := match b with
      | .a => r.stampB
      | .b => o }

/-- The record with its jolt outcome for a bay replaced. -/
def ImpactRecord.setJolt (r : ImpactRecord) (b : Bay) (o : JoltOutcome) : ImpactRecord :=
  { r with
    joltA := match b with
      | .a => o
      | .b => r.joltA
    joltB := match b with
      | .a => r.joltB
      | .b => o }

/-- Whether the record of a sequence is to close: it is open, and neither of its stamp outcomes is PENDING (R162). -/
def ImpactStore.resolves (u : ImpactStore) (sequence : Nat) : Bool :=
  match u.record sequence with
  | some r => r.isOpen && !r.stamping
  | none => false

/-- The store with the record of a sequence closed, if it is to close (R162). -/
def ImpactStore.resolve (u : ImpactStore) (sequence : Nat) (now : Instant) : ImpactStore :=
  if u.resolves sequence then u.update sequence (fun r => r.close now) else u

/-- The store takes what decides stamp outcomes of the record of a sequence, and the record closes in the same operation if
neither is PENDING then, with news IMPACT; the place is rewritten once for both (R161, R162, R167; DESIGN CHOICE, assumption log 7). -/
def State.putStamps (s : State) (u : ImpactStore) (sequence : Nat) : State :=
  if u.resolves sequence then (s.putImpact (u.resolve sequence s.clock)).setNews newsImpact else s.putImpact u

/-- A stamp outcome, DONE or FAILED, for one record and one bay: taken while that outcome is PENDING (R162). -/
def State.stampOutcome (s : State) (b : Bay) (o : StampOutcome) (sequence : Nat) : State :=
  match s.impact.record sequence with
  | some r =>
    if r.stampOf b = .pending then s.putStamps (s.impact.update sequence (fun r => r.setStamp b o)) sequence else s
  | none => s

/-- Stamp outcomes for the records of a list, one hand-over each (R37). -/
def State.stampOutcomes (s : State) (b : Bay) (o : StampOutcome) (items : List StampItem) : State :=
  items.foldl (fun s i => s.stampOutcome b o i.sequence) s

/-- Whether the newest record takes a jolt outcome: open, or closed less than 500 ms before (R163). The age is the time
elapsed since the closing instant, in quarter milliseconds (assumption log 46). -/
def ImpactRecord.takesJolt (r : ImpactRecord) (now : Instant) : Bool :=
  r.isOpen || decide (now < r.closedAt + ms 500)

/-- A jolt outcome for a bay goes to the newest record, or is dropped (R163). -/
def State.joltOutcome (s : State) (b : Bay) (o : JoltOutcome) : State :=
  match newestOf s.impact.records with
  | some r =>
    if r.takesJolt s.clock then s.putImpact (s.impact.update r.sequence (fun r => r.setJolt b o)) else s
  | none => s

/-! ### The settling end (R161) -/

/-- Whether a bay takes a stamp: ONLINE with region 3 present in its descriptor (R161). -/
def BayContext.takesStamp (c : BayContext) : Bool :=
  decide (c.state = .online) && (match c.descriptor with
    | some d => d.marks.getLsbD 3
    | none => false)

/-- The store with a record's stamp outcome for a bay decided: PENDING if the bay takes a stamp (R161). -/
def State.decideStamp (s : State) (sequence : Nat) (b : Bay) (u : ImpactStore) : ImpactStore :=
  if (s.bay b).takesStamp then u.update sequence (fun r => r.setStamp b .pending) else u

/-- The record is handed to the pack link for a bay that takes a stamp (R36, R161). -/
def State.handRecord (s : State) (r : ImpactRecord) (b : Bay) : State :=
  if (s.bay b).takesStamp then s.handStamp b { sequence := r.sequence, severity := severityCode r.severity } else s

/-- The decision for one record: bay A, then bay B; with no stamp the record closes at once (R161). -/
def State.settleRecord (s : State) (sequence : Nat) : State :=
  match s.impact.record sequence with
  | some r =>
    if r.isOpen then
      ((s.putStamps (s.decideStamp sequence .b (s.decideStamp sequence .a s.impact)) sequence).handRecord r .a).handRecord
        r .b
    else s
  | none => s

/-- The settling end of an episode's record list, in sequence order (R161). -/
def State.settlingEnd (s : State) (records : List Nat) : State := records.foldl State.settleRecord s

end Sys2Proof.Machine
end

