-- ==== Sys2Proof/Machine/LinkRemovals.lean ====
section
/-! DEFINITION. Jobs that leave the pack link's queue without their result: packs gone, withdrawals, and the pack-link
PORT_RESET (R24, R25, R39, R41, R43). -/

namespace Sys2Proof.Machine

/-- The answer data of a PACK_QUERY: bay, region, bytes placed, outcome (R39; 13). -/
def queryData (b : Bay) (region bytes outcome : Nat) : List Byte :=
  [byte (bayCode b), byte region, byte bytes, byte outcome]

/-- What the removal of a job by an outcome GONE or ABANDONED does: a STAMP job's records take FAILED, a QUERY's slot is
answered ABORTED (R37, R39, R41, R43). -/
def State.dropJob (s : State) (outcome : LinkOutcome) (reason : Reason) (j : Job) : State :=
  match j.work with
  | .stamp covered followOn => s.stampOutcomes j.bay .failed (covered ++ followOn)
  | .query slot acceptance region _ =>
    s.answerAccepted slot acceptance .aborted reason (queryData j.bay region 0 (outcomeCode outcome))
  | .identFull _ => s
  | .identSerial => s
  | .gauge => s

/-- The jobs that satisfy a condition leave the queue, the one in flight first, each with its effect (R41, R43). The
transaction of a job in flight ends; the link state stays for the caller to settle. -/
def State.removeJobs (s : State) (p : Job → Bool) (outcome : LinkOutcome) (reason : Reason) : State :=
  let leaving := s.link.jobs.filter p
  let s : State :=
    { s with
      link := { s.link with
        inFlight := match s.link.inFlight with
          | some t => if p t.job then none else some t
          | none => none
        waiting := s.link.waiting.filter (fun j => !p j) } }
  leaving.foldl (fun s j => s.dropJob outcome reason j) s

/-- A bay's pack is reported gone: every job of the bay leaves, and a freed wire goes to the arbiter (R41). -/
def State.reportGone (s : State) (b : Bay) : State :=
  (s.removeJobs (fun j => decide (j.bay = b)) .gone .packGone).arbitrate

/-- BAY_RECHECK withdraws a bay's STAMP job (R25, R28). -/
def State.withdrawStamp (s : State) (b : Bay) : State :=
  (s.removeJobs (fun j => j.stampsBay b) .gone .packGone).arbitrate

/-- A bay that is barred withdraws its waiting GAUGE job (R24, R35). -/
def State.withdrawGauge (s : State) (b : Bay) : State :=
  { s with
    link := { s.link with
      waiting := s.link.waiting.filter (fun j => !(decide (j.bay = b) && j.work.isGauge)) } }

end Sys2Proof.Machine
end

