-- ==== Sys2Proof/Machine/Carry.lean ====
section
/-! DEFINITION. The carry check (R65, R66) and the bridge test of R67. -/

namespace Sys2Proof.Machine

/-- Max discharge from the bay's descriptor, 0 without one (R16, R65). -/
def BayContext.maxDischarge (c : BayContext) : Nat :=
  match c.descriptor with
  | some d => d.maxDischarge
  | none => 0

/-- Max charge from the bay's descriptor, 0 without one (R16, R57). -/
def BayContext.maxCharge (c : BayContext) : Nat :=
  match c.descriptor with
  | some d => d.maxCharge
  | none => 0

/-- Remaining energy from the gauge values, 0 without them (R53). -/
def BayContext.remaining (c : BayContext) : Nat :=
  match c.gauge with
  | some g => g.remaining
  | none => 0

/-- Relative charge from the gauge values, 0 without them (R57, R65). -/
def BayContext.charge (c : BayContext) : Nat :=
  match c.gauge with
  | some g => g.charge
  | none => 0

/-- L_need: the load that a carrier must take (R65). -/
def PowerUnit.carryNeed (p : PowerUnit) : Nat := p.lBase + 440 + 1000

/-- Row 1: DC qualifies (R65). -/
def PowerUnit.dcCarries (p : PowerUnit) : Bool := p.dc.isSome && decide (p.carryNeed ≤ p.dcRating)

/-- Whether a bay may carry: ONLINE, not stale, at least 2 % charged (R65, R66). The gauge-stale mark alone decides, also
for a bay back ONLINE from JOLTED or from a release without a poll since (assumption log 45). -/
def BayContext.mayCarry (c : BayContext) : Bool :=
  decide (c.state = .online) && !c.stale && decide (2 ≤ c.charge)

/-- Row 2: the other bay qualifies (R65). -/
def BayContext.carries (c : BayContext) (need : Nat) : Bool := c.mayCarry && decide (need ≤ c.maxDischarge)

/-- Row 3: the bridge cell qualifies (R65). -/
def PowerUnit.bridgeCarries (p : PowerUnit) (window : Nat) : Bool :=
  decide (p.carryNeed ≤ 12000) && decide (p.carryNeed * (window + 15) ≤ p.bridgeEnergy)

/-- The offers of DC, the other bay and the bridge (R66). -/
def dcOffer (p : PowerUnit) : Nat := p.dcRating
/-- The other bay's offer (R66). -/
def bayOffer (c : BayContext) : Nat := if c.mayCarry then c.maxDischarge else 0
/-- The bridge's offer (R66). -/
def bridgeOffer (p : PowerUnit) (window : Nat) : Nat := min 12000 (p.bridgeEnergy / (window + 15))

/-- The result of a carry check (R66): the carrier on a pass, L_need, the best capacity. -/
structure CarryResult where
  carrier : Option Carrier
  need : Nat
  best : Nat
deriving DecidableEq, Repr

/-- The carrier that a check finds: the first of DC, the other bay, the bridge that qualifies (R65). -/
def State.carrierFor (s : State) (x : Bay) : Option Carrier :=
  if s.power.dcCarries then some .dc
  else if (s.bay (otherBay x)).carries s.power.carryNeed then some (.bay (otherBay x))
  else if s.power.bridgeCarries s.swapWindow then some .bridge
  else none

/-- The carry check for a release of bay X (R65, R66). It changes nothing. -/
def State.carryCheck (s : State) (x : Bay) : CarryResult :=
  { carrier := s.carrierFor x
    need := s.power.carryNeed
    best := max (dcOffer s.power) (max (bayOffer (s.bay (otherBay x))) (bridgeOffer s.power s.swapWindow)) }

end Sys2Proof.Machine
end

