-- ==== Sys2Proof/Machine/BayOps.lean ====
section
/-! DEFINITION. What changes a bay context: the change itself with what follows every change, the latch drives, and the
entries to ONLINE, READING and VACANT (R3, R4, R20, R58, R71, R73). -/

namespace Sys2Proof.Machine

/-- The power unit after a bay's context goes from one to another: a bay that leaves ONLINE has its charge allocation
at 0 mW at once (R58). -/
def PowerUnit.bayLeft (p : PowerUnit) (b : Bay) (before after : BayContext) : PowerUnit :=
  { p with
    chargeA := if b = .a ∧ before.state = .online ∧ after.state ≠ .online then 0 else p.chargeA
    chargeB := if b = .b ∧ before.state = .online ∧ after.state ≠ .online then 0 else p.chargeB }

/-- Whether a change of a bay context sets the news bit BAY: of its state (R4) or of its latch state (R71). -/
def bayNews (before after : BayContext) : Bool :=
  decide (before.state ≠ after.state) || decide (before.latch ≠ after.latch)

/-- A bay's context changes: news BAY and the charge allocation follow (R4, R58, R71). -/
def State.putBay (s : State) (b : Bay) (c : BayContext) : State :=
  { s.setBay b c with
    power := s.power.bayLeft b (s.bay b) c
    notices := { s.notices with
      news := if bayNews (s.bay b) c then s.notices.news ||| newsBay else s.notices.news } }

/-- The swap context changes, which sets the news bit BAY (R69). -/
def State.putSwap (s : State) (w : Option SwapContext) : State :=
  { s with
    swap := w
    notices := { s.notices with news := if s.swap = w then s.notices.news else s.notices.news ||| newsBay } }

/-! ### The latch (R71 to R74) -/

/-- Whether a latch is OPENING or OPEN. -/
def LatchState.isOpening : LatchState → Bool
  | .opening => true
  | .opened => true
  | _ => false

/-- The bay context with its latch CLOSING and the close confirmation running for 400 ms (R73). -/
def BayContext.closing (c : BayContext) (now : Instant) : BayContext :=
  { c with latch := .closing, latchTimer := some (now + ms 400) }

/-- The bay context after a drive to close: an OPENING latch reverses, an OPEN one becomes CLOSING, any other is left as
it is (R73). A latch reversed while its sensor still reads closed waits for the sensor's next change (assumption log
42). -/
def BayContext.drivenClosed (c : BayContext) (now : Instant) : BayContext :=
  if c.latch.isOpening then c.closing now else c

/-- A drive to close of a bay's latch (R73). -/
def State.driveClose (s : State) (b : Bay) : State := s.putBay b ((s.bay b).drivenClosed s.clock)

/-- The bay context with its latch CLOSED and no timer (R73, R74, R75). -/
def BayContext.latched (c : BayContext) : BayContext := { c with latch := .closed, latchTimer := none }

/-! ### Entries to bay states -/

/-- The bay context on entry to VACANT: what belonged to the pack is removed, and the path switch is OPEN (R1, R3, R7, R8,
R12, R86, R87). -/
def BayContext.vacated (c : BayContext) : BayContext :=
  { c with
    state := .vacant
    pathClosed := false
    descriptor := none
    gauge := none
    stale := false
    failedPolls := 0
    barred := none
    seatingTimer := none
    pollDue := none
    jolt := none }

/-- The bay context on entry to SEATING: a full 200 ms (R5, R19). -/
def BayContext.seated (c : BayContext) (now : Instant) : BayContext :=
  { c.vacated with state := .seating, seatingTimer := some (now + ms 200) }

/-- The bay context on entry to READING (R5, R11, R25). -/
def BayContext.reading (c : BayContext) : BayContext := { c.vacated with state := .reading }

/-- The bay enters READING: a full IDENT job is queued (R5, R11, R25). -/
def State.enterReading (s : State) (b : Bay) : State :=
  (s.putBay b (s.bay b).reading).join b (.identFull [])

/-- A poll falls due: a GAUGE job is queued, unless one for the bay is present (R20). -/
def State.poll (s : State) (b : Bay) : State :=
  if s.link.hasGauge b then s else s.join b .gauge

/-- The bay context on entry to ONLINE: the path switch closes, and the poll timer starts with a poll due at once
(R3, R20). -/
def BayContext.onlined (c : BayContext) (now : Instant) : BayContext :=
  { c with state := .online, pathClosed := true, pollDue := some (now + ms 1000), jolt := none }

/-- The bay enters ONLINE with a context, and takes the poll that is due at once (R20). -/
def State.enterOnline (s : State) (b : Bay) (c : BayContext) : State :=
  (s.putBay b (c.onlined s.clock)).poll b

end Sys2Proof.Machine
end

