-- ==== Sys2Proof/Machine/ReleaseOps.lean ====
section
/-! DEFINITION. The operations that a release and the hold set share: entries of the hold set with what their changes of
force hand on, the relatch, the ends of a release, and carrier losses (R83 to R91, R96, R97, R101, R102, R104). -/

namespace Sys2Proof.Machine

/-! ### Removing hold entries (R97) -/

/-- The list without the entry of a (kind, owner) pair (R97). -/
def removeEntry (kind : HoldKind) (owner : HoldOwner) (entries : List HoldEntry) : List HoldEntry :=
  entries.filter (fun e => !decide (e.kind = kind ∧ e.owner = owner))

/-- An owner removes an entry; when BRIGHT_FREEZE leaves force, the freeze ends (R97, R104). -/
def State.holdRemove (s : State) (kind : HoldKind) (owner : HoldOwner) : State :=
  let holds : HoldSet := { s.holds with entries := removeEntry kind owner s.holds.entries }
  { s with
    holds := holds
    bright := { s.bright with frozen :=
      if kind = .brightFreeze ∧ s.holds.holds kind owner then holds.inForce .brightFreeze else s.bright.frozen } }

/-! ### The ends of a release (R85) -/

/-- How a release ends (R85). -/
inductive ReleaseEnd where
  | removed
  | cancelled
  | aborted (reason : AbortReason)
deriving DecidableEq, Repr

/-- The release's fixed end in RELATCHING (R69, R84). -/
def SwapContext.fixedEnd (w : SwapContext) : ReleaseEnd :=
  if w.cancelRequested then .cancelled
  else
    match w.abortReason with
    | some r => .aborted r
    | none => .removed

/-- The answer data of a BAY_RELEASE, with the bay's state and latch state as they stand (R76, R85; 13; assumption log
14). -/
def State.releaseData (s : State) (b : Bay) (carrier phase flags need best : Nat) : List Byte :=
  [byte (bayCode b), byte (bayStateCode (s.bay b).state), byte (latchCode (s.bay b).latch), byte carrier, byte phase,
    byte flags, 0, 0] ++ leBytes 4 need ++ leBytes 4 best

/-- Whether the bay of a release is VACANT: the pack-removed flag (R85). -/
def State.packRemoved (s : State) (b : Bay) : Bool := decide ((s.bay b).state = .vacant)

/-- The answer data of a release at its end (R85). -/
def State.releaseEndData (s : State) (w : SwapContext) : List Byte :=
  s.releaseData w.bay (carrierCode w.carrier) (phaseCode w.phase)
    (flagBit 0 (s.packRemoved w.bay) + flagBit 1 w.pathReclosed) w.need w.best

/-- The slot answer of an end (R85). -/
def ReleaseEnd.status : ReleaseEnd → Status
  | .removed => .done
  | .cancelled => .cancelled
  | .aborted _ => .aborted

/-- The reason of an end (R85). -/
def ReleaseEnd.reason : ReleaseEnd → Reason
  | .removed => .none
  | .cancelled => .none
  | .aborted r => abortReasonOf r

/-- Post RELEASE_REFUSED for a bay: reason, L_need, best capacity; flag 0 is the granted flag (R77, R85; 13). -/
def State.postRefused (s : State) (b : Bay) (serial : BitVec 64) (reason : Reason) (granted : Bool) (need best : Nat) :
    State :=
  s.post .releaseRefused (some b) (flagBit 0 granted)
    (bayPayload serial ([byte (reasonCode reason)] ++ leBytes 4 need ++ leBytes 4 best))

/-- Post RELEASE_EXPIRED for a bay: carrier; flag 0 is the pack-removed flag (R85; 13). -/
def State.postExpired (s : State) (w : SwapContext) (serial : BitVec 64) : State :=
  s.post .releaseExpired (some w.bay) (flagBit 0 (s.packRemoved w.bay))
    (bayPayload serial [byte (carrierCode w.carrier)])

/-- The report of an end to the requester, and the notice for any requester (R85). -/
def State.reportEnd (s : State) (w : SwapContext) (serial : BitVec 64) (e : ReleaseEnd) : State :=
  let s :=
    match w.requester with
    | .slot k acceptance => s.answerAccepted k acceptance e.status e.reason (s.releaseEndData w)
    | _ =>
      match e with
      | .aborted .expired => s
      | .aborted r => s.postRefused w.bay serial (abortReasonOf r) true w.need w.best
      | _ => s
  match e with
  | .aborted .expired => s.postExpired w serial
  | _ => s

/-- The end of a release, once bay X has its new state: the context and the SWAP entry go, an OPENING or OPEN latch is
driven closed, and the end is reported with the pack's serial (R85). -/
def State.endRelease (s : State) (w : SwapContext) (serial : BitVec 64) (e : ReleaseEnd) : State :=
  ((((s.putSwap none).holdRemove (.latch (otherBay w.bay)) .swap).driveClose w.bay).reportEnd w serial e)

/-- Relatching is complete: the path switch closes, bay X enters ONLINE, and the release ends with its fixed end
(R84). -/
def State.relatchComplete (s : State) (w : SwapContext) : State :=
  (s.enterOnline w.bay (s.bay w.bay)).endRelease w (s.serial w.bay) w.fixedEnd

/-- The swap context in RELATCHING, with its end fixed: for a cancel, or for an abort reason (R83). -/
def SwapContext.relatching (w : SwapContext) (reason : Option AbortReason) : SwapContext :=
  { w with
    phase := .relatching
    switchingTimer := none
    windowTimer := none
    cancelRequested := reason.isNone
    abortReason := reason }

/-- RELATCHING is entered: timers go, the end is fixed, the latch is driven closed, and relatching is complete at once
if the latch is then CLOSED or STUCK (R83). -/
def State.enterRelatching (s : State) (w : SwapContext) (reason : Option AbortReason) : State :=
  let s := (s.putSwap (some (w.relatching reason))).driveClose w.bay
  match (s.bay w.bay).latch with
  | .closed => s.relatchComplete (w.relatching reason)
  | .stuck => s.relatchComplete (w.relatching reason)
  | _ => s

/-! ### Adding hold entries (R96) -/

/-- The abort reason of a hold arrival (R89). -/
def arrivalReason (owner : HoldOwner) : AbortReason := if owner = .fall then .fall else .guarded

/-- A hold arrival for a bay: a release of that bay that is not yet relatching relatches (R89). -/
def State.holdArrival (s : State) (b : Bay) (owner : HoldOwner) : State :=
  match s.swap with
  | some w =>
    if w.bay = b ∧ w.phase ≠ .relatching then s.enterRelatching w (some (arrivalReason owner)) else s
  | none => s

/-- A kind enters force, with the owner of the entry that brought it in (R102, R104). STORAGE acts on its line, which is
driven at the end of the command (R103). -/
def State.enterForce (s : State) (kind : HoldKind) (owner : HoldOwner) : State :=
  match kind with
  | .latch b => (s.driveClose b).holdArrival b owner
  | .storage => s
  | .brightFreeze => { s with bright := { s.bright with frozen := true } }

/-- An entry is appended, and its kind enters force if it was not (R96). -/
def State.holdAppend (s : State) (kind : HoldKind) (owner : HoldOwner) (expiry : Option Instant) : State :=
  let appended : State :=
    { s with
      holds := { s.holds with
        entries := s.holds.entries ++ [{ kind := kind, owner := owner, expiry := expiry, created := s.uptime }] } }
  if s.holds.inForce kind then appended else appended.enterForce kind owner

/-- FALL and SWAP add an entry; a pair that is present stays as it is (R96). -/
def State.holdAdd (s : State) (kind : HoldKind) (owner : HoldOwner) : State :=
  if s.holds.holds kind owner then s else s.holdAppend kind owner none

/-- The drop monitor adds its four FALL entries (R96, R143). -/
def State.addFallEntries (s : State) : State :=
  (((s.holdAdd (.latch .a) .fall).holdAdd (.latch .b) .fall).holdAdd .storage .fall).holdAdd .brightFreeze .fall

/-- The drop monitor removes its four FALL entries (R97, R145, R151, R153). -/
def State.removeFallEntries (s : State) : State :=
  (((s.holdRemove (.latch .a) .fall).holdRemove (.latch .b) .fall).holdRemove .storage .fall).holdRemove
    .brightFreeze .fall

/-! ### Carrier losses (R90, R91) -/

/-- The swap context with the path reclosed and the values of the failed check (R91). -/
def SwapContext.reclosed (w : SwapContext) (r : CarryResult) : SwapContext :=
  { w with pathReclosed := true, need := r.need, best := r.best }

/-- The carrier re-run failed: bay X's path switch closes at once, and a release not yet relatching relatches (R91). -/
def State.recloseFailed (s : State) (w : SwapContext) (r : CarryResult) : State :=
  let s := s.putBay w.bay { s.bay w.bay with pathClosed := true }
  if w.phase = .relatching then s.putSwap (some (w.reclosed r))
  else s.enterRelatching (w.reclosed r) (some .carrierLost)

/-- A carrier loss: nothing once the path is reclosed; otherwise the carry check is run again and acts (R90, R91). -/
def State.carrierLoss (s : State) : State :=
  match s.swap with
  | none => s
  | some w =>
    if w.pathReclosed then s
    else
      match (s.carryCheck w.bay).carrier with
      | some k =>
        s.putSwap (some { w with
          carrier := k
          need := (s.carryCheck w.bay).need
          best := (s.carryCheck w.bay).best })
      | none => s.recloseFailed w (s.carryCheck w.bay)

/-- A carrier loss if the carrier of the release is this one (R49, R67, R90). -/
def State.lossOf (s : State) (k : Carrier) : State :=
  match s.swap with
  | some w => if w.carrier = k then s.carrierLoss else s
  | none => s

end Sys2Proof.Machine
end

