-- ==== Sys2Proof/Machine/Operands.lean ====
section
/-! DEFINITION. What the block reads out of the bytes of packs: regions and gauge frames (R14 to R16, R21; 13). -/

namespace Sys2Proof.Machine

/-! ### Pack regions (13, PACK MEMORY; R14 to R16) -/

/-- The signature of a pack (01, table of regions). -/
def packSignature : Nat := 0x5C3A

/-- The signature that region 0 holds. -/
def regionSignature (region0 : List Byte) : Nat := field region0 0 2

/-- The region count that region 0 holds. -/
def regionCountOf (region0 : List Byte) : Nat := field region0 2 1

/-- The serial that region 0 holds. -/
def regionSerial (region0 : List Byte) : BitVec 64 := BitVec.ofNat 64 (field region0 8 8)

/-- Checks 1 to 3 of R15, on region 0. -/
def identityFault (region0 : List Byte) : Option BarredReason :=
  if regionSignature region0 ≠ packSignature then some .notAPack
  else if regionCountOf region0 < 1 ∨ 4 < regionCountOf region0 then some .badLayout
  else if (field region0 3 1 ≠ 1 ∧ field region0 3 1 ≠ 2) ∨ (field region0 4 1 ≠ 3 ∧ field region0 4 1 ≠ 4) then
    some .unsupported
  else none

/-- Check 4 of R15, on region 1. -/
def ratingFault (region1 : List Byte) : Option BarredReason :=
  if field region1 0 2 < 9000 ∨ 17000 < field region1 0 2 ∨ field region1 8 4 < 5000 ∨ 60000 < field region1 8 4 then
    some .badRating
  else none

/-- The fault that ends an identification early: checks 1 to 3, then check 4 if region 1 has been read (R14, R15). -/
def earlyFault : List (List Byte) → Option BarredReason
  | [] => none
  | [region0] => identityFault region0
  | region0 :: region1 :: _ =>
    match identityFault region0 with
    | some r => some r
    | none => ratingFault region1

/-- Whether a full IDENT job has ended after good reads of these regions (R14 points 2, 3 and 5). -/
def identDone (regions : List (List Byte)) : Bool :=
  (earlyFault regions).isSome || decide (regionCountOf (regions.getD 0 []) ≤ regions.length)

/-- Whether a bay's state counts for the duplicate-serial check (R15 check 5). -/
def BayState.countsSerial : BayState → Bool
  | .online => true
  | .releasing => true
  | .jolted => true
  | _ => false

/-- Check 5 of R15: the serial stands in the other bay's descriptor. -/
def duplicateSerial (region0 : List Byte) (other : BayContext) : Bool :=
  other.state.countsSerial && (match other.descriptor with
    | some d => decide (d.serial = regionSerial region0)
    | none => false)

/-- The barred reason at the end of a full IDENT job: the first check of R15 that fails. -/
def identBarred (regions : List (List Byte)) (failed : Bool) (other : BayContext) : Option BarredReason :=
  match earlyFault regions with
  | some r => some r
  | none =>
    if !regions.isEmpty && duplicateSerial (regions.getD 0 []) other then some .duplicateSerial
    else if failed then some .noAnswer
    else none

/-- The region-present marks after good reads of regions 0 to k − 1 (R16). -/
def presentMarks (k : Nat) : Byte := byte (2 ^ min k 4 - 1)

/-- A field of a region if it was read, and its default otherwise (R16). -/
def regionField (regions : List (List Byte)) (region offset size default : Nat) : Nat :=
  if region < regions.length then field (regions.getD region []) offset size else default

/-- The descriptor built from the regions read (R16; 13, PACK MEMORY). -/
def descriptorOf (regions : List (List Byte)) : Descriptor :=
  { regionCount := regionField regions 0 2 1 0
    chemistry := regionField regions 0 3 1 0
    series := regionField regions 0 4 1 0
    serial := regionSerial (regions.getD 0 [])
    nominal := regionField regions 1 0 2 0
    chargeVoltage := regionField regions 1 2 2 0
    design := regionField regions 1 4 4 0
    maxDischarge := regionField regions 1 8 4 30000
    maxCharge := regionField regions 1 12 4 20000
    cycles := regionField regions 2 0 2 0
    health := regionField regions 2 2 1 100
    shockCount := regionField regions 3 0 2 0
    lastSeverity := regionField regions 3 2 1 0
    lastSequence := regionField regions 3 3 2 0
    marks := presentMarks regions.length }

/-- Whether a bay barred at the end of a full IDENT job keeps a descriptor: region 0 was read with the right signature
(R18). -/
def keepsDescriptor (regions : List (List Byte)) : Bool :=
  !regions.isEmpty && decide (regionSignature (regions.getD 0 []) = packSignature)

/-! ### Gauge frames (R21; 13) -/

/-- Relative charge (R21). -/
def relativeCharge (remaining full : Nat) : Nat := if full = 0 then 0 else min 100 (remaining * 100 / full)

/-- The gauge values of a gauge frame (R21; 13). -/
def gaugeOf (bytes : List Byte) : Gauge :=
  { voltage := field bytes 0 2
    current := signedField bytes 2 2
    remaining := field bytes 4 4
    full := field bytes 8 4
    temperature := signedField bytes 12 2
    flags := byte (field bytes 14 1)
    charge := relativeCharge (field bytes 4 4) (field bytes 8 4) }

/-- The pack-fault flag (R24; 13). -/
def Gauge.packFault (g : Gauge) : Bool := g.flags.getLsbD 0

/-- The gauge values of a bay that has just come ONLINE (R17). -/
def Gauge.zero : Gauge :=
  { voltage := 0, current := 0, remaining := 0, full := 0, temperature := 0, flags := 0, charge := 0 }

/-! ### Answer frames (R30; 13, PACK-WIRE FRAMES) -/

/-- The length of a region (01, table of regions). -/
def regionLength (region : Nat) : Nat := if region < 2 then 16 else 8

/-- The length of the answer frame that a job's transaction calls for (13). -/
def Work.answerLength (w : Work) : Nat :=
  match w with
  | .stamp _ _ => 3
  | .gauge => 16
  | w => 2 + regionLength w.region

/-- Whether the echoed region of an answer is the one requested; only a REGION_READ has one (R30). -/
def Work.echoOk (w : Work) (bytes : List Byte) : Bool :=
  match w with
  | .stamp _ _ => true
  | .gauge => true
  | w => decide (field bytes 0 1 = w.region)

/-- The check of an answer frame: CRC, length and echoed region (R30). -/
def Work.answerGood (w : Work) (bytes : List Byte) : Bool :=
  decide (bytes.getLastD 0 = crc8 bytes.dropLast) && decide (bytes.length = w.answerLength) && w.echoOk bytes

/-- What a good answer frame carries: without its CRC, and without the echoed region of a REGION_READ (13). -/
def Work.answerData (w : Work) (bytes : List Byte) : List Byte :=
  match w with
  | .stamp _ _ => bytes.dropLast
  | .gauge => bytes.dropLast
  | _ => bytes.dropLast.drop 1

end Sys2Proof.Machine
end

