-- ==== Sys2Proof/Machine/PackOps.lean ====
section
/-! DEFINITION. What the end of a transaction does: identifications, gauge polls, stamps and queries (R11, R15 to R18, R21
to R24, R28, R34, R35, R37, R39). -/

namespace Sys2Proof.Machine

/-! ### Identification (R15 to R18) -/

/-- Post PACK_READY: chemistry, series, design energy, region-present marks (R17; 13). -/
def State.postReady (s : State) (b : Bay) (d : Descriptor) : State :=
  s.post .packReady (some b) 0
    (bayPayload d.serial ([byte d.chemistry, byte d.series] ++ leBytes 4 d.design ++ [d.marks]))

/-- Post PACK_BARRED with the reason and the serial that the bay's descriptor then has (R18, R24). -/
def State.postBarred (s : State) (b : Bay) (r : BarredReason) : State :=
  s.post .packBarred (some b) 0 (bayPayload (s.serial b) [byte (barredCode r)])

/-- The bay enters ONLINE from READING (R17). -/
def State.identified (s : State) (b : Bay) (regions : List (List Byte)) : State :=
  (s.enterOnline b { s.bay b with
    descriptor := some (descriptorOf regions), gauge := some Gauge.zero, stale := true, failedPolls := 0 }).postReady b
      (descriptorOf regions)

/-- The bay context on entry to BARRED from READING (R18). -/
def BayContext.barredBy (c : BayContext) (r : BarredReason) (regions : List (List Byte)) : BayContext :=
  { c with
    state := .barred
    barred := some r
    pathClosed := false
    descriptor := if keepsDescriptor regions then some (descriptorOf regions) else none }

/-- The end of a full IDENT job, taken in READING (R15, R17, R18). `failed` is set when its last read ended NO_ANSWER or
LINK_ERROR. -/
def State.identEnd (s : State) (b : Bay) (regions : List (List Byte)) (failed : Bool) : State :=
  if (s.bay b).state = .reading then
    match identBarred regions failed (s.bay (otherBay b)) with
    | none => s.identified b regions
    | some r => (s.putBay b ((s.bay b).barredBy r regions)).postBarred b r
  else s

/-- Post PACK_JOLTED with an outcome (R11; 13). -/
def State.postJolted (s : State) (b : Bay) (serial : BitVec 64) (o : JoltOutcome) : State :=
  s.post .packJolted (some b) 0 (bayPayload serial [byte (joltOutcomeCode o)])

/-- Whether a region 0 read is the same pack's: the signature and the kept serial (R11). -/
def samePack (c : BayContext) (region0 : Option (List Byte)) : Bool :=
  match region0, c.descriptor with
  | some r, some d => decide (regionSignature r = packSignature) && decide (d.serial = regionSerial r)
  | _, _ => false

/-- Whether a bay is JOLTED in a phase (R10). -/
def BayContext.joltedIn (c : BayContext) (p : JoltPhase) : Bool :=
  decide (c.state = .jolted) && (match c.jolt with
    | some j => decide (j.phase = p)
    | none => false)

/-- The end of a serial-only IDENT job, in phase SERIAL_CHECK: the same pack or a different one (R11). -/
def State.serialEnd (s : State) (b : Bay) (region0 : Option (List Byte)) : State :=
  if (s.bay b).joltedIn .serialCheck then
    if samePack (s.bay b) region0 then
      ((s.enterOnline b (s.bay b)).postJolted b (s.serial b) .restored).joltOutcome b .restored
    else ((s.enterReading b).postJolted b (s.serial b) .lost).joltOutcome b .lost
  else s

/-! ### Gauge polls (R21 to R24) -/

/-- Whether a bay takes gauge results: ONLINE or RELEASING (R21, R23). -/
def BayState.takesGauge : BayState → Bool
  | .online => true
  | .releasing => true
  | _ => false

/-- The bay context after a good poll (R21). -/
def BayContext.polled (c : BayContext) (g : Gauge) : BayContext :=
  { c with gauge := some g, stale := false, failedPolls := 0 }

/-- The bay context after a failed poll (R22). -/
def BayContext.pollFailed (c : BayContext) : BayContext :=
  { c with
    failedPolls := min 3 (c.failedPolls + 1)
    stale := c.stale || decide (3 ≤ c.failedPolls + 1) }

/-- The bay context on entry to BARRED for a pack fault (R24). -/
def BayContext.faulted (c : BayContext) : BayContext :=
  { c with
    state := .barred
    barred := some .packFault
    pathClosed := false
    gauge := none
    pollDue := none
    stale := false
    failedPolls := 0 }

/-- The pack fault: the bay is barred, its waiting GAUGE job goes, and its leaving ONLINE may be a carrier loss (R24, R35,
R90). -/
def State.packFault (s : State) (b : Bay) : State :=
  (((s.putBay b (s.bay b).faulted).withdrawGauge b).postBarred b .packFault).lossOf (.bay b)

/-- A good gauge frame (R21, R23, R24). -/
def State.gaugeGood (s : State) (b : Bay) (g : Gauge) : State :=
  if (s.bay b).state.takesGauge then
    if (s.bay b).state = .online ∧ g.packFault then (s.putBay b ((s.bay b).polled g)).packFault b
    else s.putBay b ((s.bay b).polled g)
  else s

/-- A failed poll (R22, R23). -/
def State.gaugeFailed (s : State) (b : Bay) : State :=
  if (s.bay b).state.takesGauge then s.putBay b (s.bay b).pollFailed else s

/-! ### Stamps (R16, R37) -/

/-- The descriptor with the values that a stamp stored (R16, R37). -/
def Descriptor.stamped (d : Descriptor) (v : StampValues) : Descriptor :=
  { d with shockCount := v.count, lastSeverity := v.severity, lastSequence := v.sequence }

/-- The bay context after a stamp that ended DONE (R16, R37). -/
def BayContext.stamped (c : BayContext) (v : StampValues) : BayContext :=
  { c with
    descriptor := match c.descriptor with
      | some d => some (d.stamped v)
      | none => none }

/-- A job goes back to WAITING. -/
def State.requeue (s : State) (j : Job) : State :=
  { s with link := { s.link with waiting := s.link.waiting ++ [j] } }

/-- A STAMP job after its round: its follow-on records become the covered list, queued now, or the job leaves (R37). -/
def State.stampRound (s : State) (j : Job) (followOn : List StampItem) : State :=
  if followOn.isEmpty then s else s.requeue { j with work := .stamp followOn [], queuedAt := s.clock / 4 }

/-- Whether the acknowledge of a STAMP_WRITE echoes the count sent (R37). -/
def stampEchoed (v : StampValues) (data : Option (List Byte)) : Bool :=
  match data with
  | some bytes => decide (field bytes 0 2 = v.count)
  | none => false

/-- The end of a STAMP_WRITE; `data` is absent for NO_ANSWER and LINK_ERROR (R37). -/
def State.stampEnd (s : State) (j : Job) (covered followOn : List StampItem) (v : StampValues)
    (data : Option (List Byte)) : State :=
  if stampEchoed v data then
    ((s.putBay j.bay ((s.bay j.bay).stamped v)).stampOutcomes j.bay .done covered).stampRound j followOn
  else (s.stampOutcomes j.bay .failed covered).stampRound j followOn

/-! ### Queries (R39) -/

/-- Where a bulk buffer begins (09, CARE MEMORY). -/
def bulkBase (buffer : Nat) : Nat := 0x1000 + 256 * buffer

/-- The end of a QUERY's REGION_READ (R39, R44). -/
def State.queryEnd (s : State) (t : Transaction) (slot acceptance region buffer : Nat) (outcome : LinkOutcome)
    (data : List Byte) : State :=
  if t.discard then s
  else
    match outcome with
    | .good =>
      (s.blockStore (bulkBase buffer) (padTo 256 data)).answerAccepted slot acceptance .done .none
        (queryData t.job.bay region data.length (outcomeCode .good))
    | o => s.answerAccepted slot acceptance .aborted .linkError (queryData t.job.bay region 0 (outcomeCode o))

/-! ### Ends of transactions (R28, R34, R35) -/

/-- The end of a region read of a full IDENT job (R34). -/
def State.regionRead (s : State) (j : Job) (regions : List (List Byte)) (data : Option (List Byte)) : State :=
  match data with
  | some bytes =>
    if identDone (regions ++ [bytes]) then s.identEnd j.bay (regions ++ [bytes]) false
    else s.requeue { j with work := .identFull (regions ++ [bytes]) }
  | none => s.identEnd j.bay regions true

/-- The outcome of a transaction goes to the rule that owns the job's kind (R28): GOOD with its data, or NO_ANSWER or
LINK_ERROR without. -/
def State.takeOutcome (s : State) (t : Transaction) (outcome : LinkOutcome) (data : Option (List Byte)) : State :=
  match t.job.work with
  | .identFull regions => s.regionRead t.job regions data
  | .identSerial => s.serialEnd t.job.bay data
  | .gauge =>
    match data with
    | some bytes => s.gaugeGood t.job.bay (gaugeOf bytes)
    | none => s.gaugeFailed t.job.bay
  | .stamp covered followOn =>
    s.stampEnd t.job covered followOn (t.stamp.getD { count := 0, severity := 0, sequence := 0 }) data
  | .query slot acceptance region buffer => s.queryEnd t slot acceptance region buffer outcome (data.getD [])

/-- The end of a transaction: it is removed, its outcome is taken, and the arbiter chooses again (R28, R33). -/
def State.endTransaction (s : State) (t : Transaction) (outcome : LinkOutcome) (data : Option (List Byte)) : State :=
  (State.takeOutcome { s with link := { s.link with inFlight := none } } t outcome data).arbitrate

end Sys2Proof.Machine
end

