-- ==== Sys2Proof/Machine/PackWire.lean ====
section
/-! DEFINITION. The commands of the pack wire: frames, windows and the reset's end (R28 to R31, R42). -/

namespace Sys2Proof.Machine

/-- The transaction in flight at another point of its attempt. -/
def State.setPhase (s : State) (t : Transaction) (p : WirePhase) : State :=
  { s with link := { s.link with inFlight := some { t with phase := p } } }

/-- REQUEST_FRAME_END: the request frame ends, and the answer window of 20 ms opens (R28, R31). -/
def execRequestFrameEnd (s : State) : Host.Outcome State Fault Refusal :=
  match s.link.inFlight with
  | some t =>
    match t.phase with
    | .sending till => finish s ((s.reach till).setPhase t (.window ((s.reach till).clock + ms 20)))
    | _ => finish s s
  | none => finish s s

/-- ANSWER_WINDOW_EXPIRY: no answer frame has begun, and the attempt ends NO_ANSWER (R31). -/
def execAnswerWindowExpiry (s : State) : Host.Outcome State Fault Refusal :=
  match s.link.inFlight with
  | some t =>
    match t.phase with
    | .window till => finish s ((s.reach till).endTransaction t .noAnswer none)
    | _ => finish s s
  | none => finish s s

/-- ANSWER_FRAME_BEGIN: an answer frame begins in the window, and is then taken to its end (R31). -/
def execAnswerFrameBegin (s : State) : Host.Outcome State Fault Refusal :=
  match s.link.inFlight with
  | some t =>
    match t.phase with
    | .window till => finish s (if s.clock ≤ till then s.setPhase t .answering else s)
    | _ => finish s s
  | none => finish s s

/-- Whether an answer frame can end now: one has begun, or begins and ends within the window (R31; assumption log 25). -/
def Transaction.takesAnswer (t : Transaction) (now : Instant) : Bool :=
  match t.phase with
  | .answering => true
  | .window till => decide (now ≤ till)
  | .sending _ => false

/-- The transaction's second attempt: the whole request frame again, with the same contents (R30). -/
def Transaction.retry (t : Transaction) (now : Instant) : Transaction :=
  { t with attempt := 2, phase := .sending (now + ms t.job.work.requestMs) }

/-- A check failure: the retry at attempt 1, LINK_ERROR at attempt 2 (R30). -/
def State.answerFailed (s : State) (t : Transaction) : State :=
  if t.attempt = 1 then { s with link := { s.link with inFlight := some (t.retry s.clock) } }
  else s.endTransaction t .linkError none

/-- An answer frame ends and is checked (R30). -/
def State.answerEnd (s : State) (t : Transaction) (bytes : List Byte) : State :=
  if t.job.work.answerGood bytes then s.endTransaction t .good (some (t.job.work.answerData bytes))
  else s.answerFailed t

/-- ANSWER_FRAME: an answer frame of these bytes ends (R29, R30). -/
def execAnswerFrame (bytes : List Byte) (s : State) : Host.Outcome State Fault Refusal :=
  match s.link.inFlight with
  | some t => finish s (if t.takesAnswer s.clock then s.answerEnd t bytes else s)
  | none => finish s s

/-- ANSWER_FRAME_GAP_END: an answer frame that has begun ends by a gap of 1 ms; it is short and fails its length check
(R31). -/
def execAnswerFrameGapEnd (s : State) : Host.Outcome State Fault Refusal :=
  match s.link.inFlight with
  | some t => finish s (if t.phase = .answering then s.answerFailed t else s)
  | none => finish s s

/-- The answer data of a pack-link PORT_RESET: the port (13). -/
def linkResetData : List Byte := [0]

/-- The end of a pack-link PORT_RESET: the wire is released, the slot is answered DONE, and the arbiter chooses (R42). -/
def State.linkResetEnd (s : State) : State :=
  let released : State :=
    { s with link := { s.link with state := .idle, resetTimer := none, resetSlot := none } }
  State.arbitrate (match s.link.resetSlot with
    | some (k, acceptance) => released.answerAccepted k acceptance .done .none linkResetData
    | none => released)

/-- RESET_TIMER_EXPIRY (R42). -/
def execResetTimerExpiry (s : State) : Host.Outcome State Fault Refusal :=
  match s.link.resetTimer with
  | some t => finish s (s.reach t).linkResetEnd
  | none => finish s s

end Sys2Proof.Machine
end

