-- ==== Sys2Proof/Machine/SwapOps.lean ====
section
/-! DEFINITION. What the latch hands the swap controller, the removals of a releasing pack, and the release requests
(R72 to R82, R86, R87). -/

namespace Sys2Proof.Machine

/-! ### Latch outcomes (R80 to R82, R84) -/

/-- The releasing bay's swap context, if the bay is RELEASING and has one. -/
def State.releaseOf (s : State) (b : Bay) : Option SwapContext :=
  if (s.bay b).state = .releasing then s.swapOf b else none

/-- The latch hands "open": in UNLATCHING the phase becomes WAITING, and the window timer runs (R81). -/
def State.handOpen (s : State) (b : Bay) : State :=
  match s.releaseOf b with
  | some w =>
    if w.phase = .unlatching then
      s.putSwap (some { w with phase := .waiting, windowTimer := some (s.inMs (1000 * s.swapWindow)) })
    else s
  | none => s

/-- The latch hands "open failed": in UNLATCHING the release relatches (R81). -/
def State.handOpenFailed (s : State) (b : Bay) : State :=
  match s.releaseOf b with
  | some w => if w.phase = .unlatching then s.enterRelatching w (some .latchFault) else s
  | none => s

/-- The latch hands "closed": relatching is complete; in WAITING the release relatches; otherwise the phase stays (R80,
R82, R84). -/
def State.handClosed (s : State) (b : Bay) : State :=
  match s.releaseOf b with
  | some w =>
    match w.phase with
    | .relatching => s.relatchComplete w
    | .waiting => s.enterRelatching w (some .latchFault)
    | .switching => s
    | .unlatching => s
  | none => s

/-- The latch hands "stuck": relatching is complete; otherwise the phase stays (R80, R84). -/
def State.handStuck (s : State) (b : Bay) : State :=
  match s.releaseOf b with
  | some w => if w.phase = .relatching then s.relatchComplete w else s
  | none => s

/-- The drive to open at the start of UNLATCHING: a CLOSED latch becomes OPENING; any other hands "open failed" (R72). -/
def State.driveOpen (s : State) (b : Bay) : State :=
  if (s.bay b).latch = .closed then
    s.putBay b { s.bay b with latch := .opening, latchTimer := some (s.inMs 400) }
  else s.handOpenFailed b

/-! ### Removals (R86, R87) -/

/-- Post PACK_REMOVED; flag 0 is the during-fall flag (R6, R7, R86, R87; 13). -/
def State.postRemoved (s : State) (b : Bay) (serial : BitVec 64) (duringFall : Bool) : State :=
  s.post .packRemoved (some b) (flagBit 0 duringFall) (bayPayload serial [])

/-- Post PACK_LOST; flag 0 is the during-impact flag (R8, R12, R87; 13). -/
def State.postLost (s : State) (b : Bay) (serial : BitVec 64) (duringImpact : Bool) : State :=
  s.post .packLost (some b) (flagBit 0 duringImpact) (bayPayload serial [])

/-- The bay enters VACANT and reports its pack gone (R6, R7, R8, R86, R87). -/
def State.vacate (s : State) (b : Bay) : State := (s.putBay b (s.bay b).vacated).reportGone b

/-- The notice of a removal in RELATCHING, by the path switch at the loss (R87). -/
def State.postRelatchLoss (s : State) (b : Bay) (serial : BitVec 64) (wasClosed : Bool) : State :=
  if wasClosed then s.postLost b serial s.inFall else s.postRemoved b serial (s.fallHeld b)

/-- A contact loss of a releasing bay: the pack removed, and the release ends (R86, R87). -/
def State.releasingLoss (s : State) (b : Bay) (w : SwapContext) : State :=
  if w.phase = .relatching then
    ((s.vacate b).postRelatchLoss b (s.serial b) (s.bay b).pathClosed).endRelease w (s.serial b) w.fixedEnd
  else (((s.vacate b).driveClose b).postRemoved b (s.serial b) (s.fallHeld b)).endRelease w (s.serial b) .removed

/-! ### Release requests (R76, R79) -/

/-- Checks 1 to 3 of R76, in order. -/
def State.releaseRefusal (s : State) (x : Bay) : Option Reason :=
  if (s.bay x).state = .vacant then some .noPack
  else if (s.bay x).state ≠ .online then some .badState
  else if (s.bay x).latch ≠ .closed then some .badState
  else if (s.bay (otherBay x)).state = .releasing then some .busy
  else if s.holds.inForce (.latch x) then some .guarded
  else none

/-- What a release request comes to: a refusal with its reason, L_need and best capacity, or a grant with its carrier
and those values (R76). -/
inductive ReleaseResult where
  | refused (reason : Reason) (need best : Nat)
  | granted (carrier : Carrier) (need best : Nat)
deriving DecidableEq, Repr

/-- The checks of a release request, check 4 last (R76). -/
def State.releaseResult (s : State) (x : Bay) : ReleaseResult :=
  match s.releaseRefusal x with
  | some r => .refused r 0 0
  | none =>
    match (s.carryCheck x).carrier with
    | some k => .granted k (s.carryCheck x).need (s.carryCheck x).best
    | none => .refused .carryShort (s.carryCheck x).need (s.carryCheck x).best

/-- The swap context at a grant (R79). -/
def grantContext (x : Bay) (requester : Requester) (carrier : Carrier) (need best : Nat) (now : Instant) : SwapContext :=
  { bay := x
    requester := requester
    carrier := carrier
    phase := .switching
    switchingTimer := some (now + ms 20)
    windowTimer := none
    need := need
    best := best
    cancelRequested := false
    abortReason := none
    pathReclosed := false }

/-- The grant (R79). -/
def State.grant (s : State) (x : Bay) (requester : Requester) (carrier : Carrier) (need best : Nat) : State :=
  State.holdAdd
    ((s.putSwap (some (grantContext x requester carrier need best s.clock))).putBay x
      { s.bay x with state := .releasing, pollDue := none, pathClosed := false })
    (.latch (otherBay x)) .swap

end Sys2Proof.Machine
end

