-- ==== Sys2Proof/Machine/Bays.lean ====
section
/-! DEFINITION. The commands of the bay controllers: contact, and the seating, contact-hold, jolt and poll timers (R5 to
R12, R20). -/

namespace Sys2Proof.Machine

/-- The state with the CONTACT pin of a bay at a level. -/
def State.setContact (s : State) (b : Bay) (level : Bool) : State :=
  s.setBayPins b { s.bayPins b with contact := level }

/-- The bay context with its jolt data replaced. -/
def BayContext.setJolt (c : BayContext) (j : Jolt) : BayContext := { c with jolt := some j }

/-- A contact arrival in JOLTED: in NO_CONTACT the contact hold begins, for 20 ms (R10). -/
def Jolt.arrive (j : Jolt) (now : Instant) : Jolt :=
  if j.phase = .noContact then { j with phase := .contactHold, holdTimer := some (now + ms 20) } else j

/-- A contact arrival, by the bay's state (R5, R10). -/
def State.contactArrives (s : State) (b : Bay) : State :=
  match (s.bay b).state, (s.bay b).jolt with
  | .vacant, _ => s.putBay b ((s.bay b).seated s.clock)
  | .jolted, some j => s.putBay b ((s.bay b).setJolt (j.arrive s.clock))
  | _, _ => s

/-- CONTACT_ARRIVAL (R5, R10). -/
def execContactArrival (b : Bay) (s : State) : Host.Outcome State Fault Refusal :=
  finish s ((s.setContact b true).contactArrives b)

/-! ### Contact loss -/

/-- The jolt data on entry to JOLTED (R9). -/
def Jolt.begin (now : Instant) : Jolt :=
  { timer := some (now + ms 500), phase := .noContact, holdTimer := none, expired := false }

/-- The bay context on entry to JOLTED: the descriptor and the gauge values are kept (R9). -/
def BayContext.joltedAt (c : BayContext) (now : Instant) : BayContext :=
  { c with state := .jolted, pathClosed := false, pollDue := none, jolt := some (Jolt.begin now) }

/-- A contact loss in ONLINE: JOLTED in a fall, VACANT otherwise; the change may be a carrier loss (R8, R9, R90). -/
def State.onlineLoss (s : State) (b : Bay) : State :=
  if s.inFall then ((s.putBay b ((s.bay b).joltedAt s.clock)).reportGone b).lossOf (.bay b)
  else ((s.vacate b).postLost b (s.serial b) false).lossOf (.bay b)

/-- A JOLTED bay's pack is lost: VACANT, PACK_LOST with its during-impact flag, outcome LOST (R12). -/
def State.joltLost (s : State) (b : Bay) : State :=
  ((s.putBay b (s.bay b).vacated).postLost b (s.serial b) true).joltOutcome b .lost

/-- The jolt data after a contact loss: NO_CONTACT, with no contact hold (R10). -/
def Jolt.lose (j : Jolt) : Jolt := { j with phase := .noContact, holdTimer := none }

/-- After a contact loss in CONTACT_HOLD or SERIAL_CHECK: VACANT once the jolt timer has expired, NO_CONTACT otherwise
(R10, R12). -/
def State.joltBack (s : State) (b : Bay) (j : Jolt) : State :=
  if j.expired then s.joltLost b else s.putBay b ((s.bay b).setJolt j.lose)

/-- A contact loss in JOLTED, by the phase (R10, R12). -/
def State.joltedLoss (s : State) (b : Bay) (j : Jolt) : State :=
  match j.phase with
  | .noContact => s
  | .contactHold => s.joltBack b j
  | .serialCheck => (s.reportGone b).joltBack b j

/-- A contact loss, by the bay's state (R5 to R8, R10, R12, R86, R87). -/
def State.contactLeaves (s : State) (b : Bay) : State :=
  match (s.bay b).state with
  | .vacant => s
  | .seating => s.putBay b (s.bay b).vacated
  | .reading => (s.vacate b).postRemoved b (s.serial b) false
  | .barred => (s.vacate b).postRemoved b (s.serial b) false
  | .online => s.onlineLoss b
  | .releasing =>
    match s.swapOf b with
    | some w => s.releasingLoss b w
    | none => s
  | .jolted =>
    match (s.bay b).jolt with
    | some j => s.joltedLoss b j
    | none => s

/-- CONTACT_LOSS (R5 to R8, R10, R12, R86, R87). -/
def execContactLoss (b : Bay) (s : State) : Host.Outcome State Fault Refusal :=
  finish s ((s.setContact b false).contactLeaves b)

/-! ### Timers -/

/-- SEATING_TIMER_EXPIRY: READING, a full IDENT job, PACK_SEATED with a serial of zero (R5). -/
def execSeatingTimerExpiry (b : Bay) (s : State) : Host.Outcome State Fault Refusal :=
  match (s.bay b).seatingTimer with
  | some t => finish s (((s.reach t).enterReading b).post .packSeated (some b) 0 (bayPayload 0 []))
  | none => finish s s

/-- The jolt data at the end of the contact hold: SERIAL_CHECK (R10). -/
def Jolt.check (j : Jolt) : Jolt := { j with phase := .serialCheck, holdTimer := none }

/-- The contact hold ends: SERIAL_CHECK, and a serial-only IDENT job is queued (R10). -/
def State.holdEnds (s : State) (b : Bay) (j : Jolt) : State :=
  (s.putBay b ((s.bay b).setJolt j.check)).join b .identSerial

/-- CONTACT_HOLD_EXPIRY (R10). -/
def execContactHoldExpiry (b : Bay) (s : State) : Host.Outcome State Fault Refusal :=
  match (s.bay b).jolt with
  | some j =>
    match j.holdTimer with
    | some t => finish s ((s.reach t).holdEnds b j)
    | none => finish s s
  | none => finish s s

/-- The jolt timer expires: VACANT in NO_CONTACT, the jolt-expired mark otherwise (R12). -/
def State.joltExpires (s : State) (b : Bay) (j : Jolt) : State :=
  if j.phase = .noContact then s.joltLost b
  else s.putBay b ((s.bay b).setJolt { j with timer := none, expired := true })

/-- JOLT_TIMER_EXPIRY (R12). -/
def execJoltTimerExpiry (b : Bay) (s : State) : Host.Outcome State Fault Refusal :=
  match (s.bay b).jolt with
  | some j =>
    match j.timer with
    | some t => finish s ((s.reach t).joltExpires b j)
    | none => finish s s
  | none => finish s s

/-- The poll timer runs on to its next due point, 1000 ms from this one (R20). -/
def State.nextPoll (s : State) (b : Bay) (due : Instant) : State :=
  s.setBay b { s.bay b with pollDue := some (due + ms 1000) }

/-- GAUGE_POLL: a poll falls due (R20). -/
def execGaugePoll (b : Bay) (s : State) : Host.Outcome State Fault Refusal :=
  match (s.bay b).pollDue with
  | some t => finish s (((s.reach t).nextPoll b t).poll b)
  | none => finish s s

end Sys2Proof.Machine
end

