-- ==== Sys2Proof/Machine/Holds.lean ====
section
/-! DEFINITION. SOFTWARE hold entries: HOLD, UNHOLD and their expiry (R98 to R100). -/

namespace Sys2Proof.Machine

/-- The duration as it is stored: 0, or 1 to 3600 s (R98). -/
def holdDuration (seconds : Nat) : Nat := min 3600 seconds

/-- The expiry of a hold of a stored duration (R98). -/
def State.holdExpiryAt (s : State) (duration : Nat) : Option Instant :=
  if duration = 0 then none else some (s.inMs (1000 * duration))

/-- The SOFTWARE entry of a kind with its expiry replaced (R98). -/
def HoldSet.renew (h : HoldSet) (kind : HoldKind) (expiry : Option Instant) : HoldSet :=
  { h with
    entries := h.entries.map (fun e =>
      if e.kind = kind ∧ e.owner = .software then { e with expiry := expiry } else e) }

/-- HOLD of a kind for a stored duration: the entry is added, or its expiry replaced (R98). -/
def State.holdSoftware (s : State) (kind : HoldKind) (duration : Nat) : State :=
  if s.holds.holds kind .software then
    { s with holds := s.holds.renew kind (s.holdExpiryAt duration) }
  else s.holdAppend kind .software (s.holdExpiryAt duration)

/-- The expiry of the SOFTWARE entry of a kind, if it has one. -/
def HoldSet.softwareExpiry (h : HoldSet) (kind : HoldKind) : Option Instant :=
  match h.entries.find? (fun e => decide (e.kind = kind ∧ e.owner = .software)) with
  | some e => e.expiry
  | none => none

/-- HOLD_EXPIRY: the SOFTWARE entry is removed (R100). -/
def execHoldExpiry (kind : HoldKind) (s : State) : Host.Outcome State Fault Refusal :=
  match s.holds.softwareExpiry kind with
  | some t => finish s ((s.reach t).holdRemove kind .software)
  | none => finish s s

/-- The care reset removes every SOFTWARE entry (R95). -/
def State.removeSoftware (s : State) : State :=
  ((s.holdRemove (.latch .a) .software).holdRemove (.latch .b) .software).holdRemove .brightFreeze .software

end Sys2Proof.Machine
end

