-- ==== Sys2Proof/Machine/Latches.lean ====
section
/-! DEFINITION. The commands of the latch sensors and their timers, and of the release buttons (R71 to R77). -/

namespace Sys2Proof.Machine

/-- The state with the latch sensor of a bay at a reading. -/
def State.setLatchPin (s : State) (b : Bay) (reading : LatchReading) : State :=
  s.setBayPins b { s.bayPins b with latch := reading }

/-- The latch becomes CLOSED, and hands "closed" if its bay is RELEASING (R73, R74, R75). -/
def State.latchCloses (s : State) (b : Bay) : State := (s.putBay b (s.bay b).latched).handClosed b

/-- The latch becomes OPEN, and hands "open" (R72). -/
def State.latchOpens (s : State) (b : Bay) : State :=
  (s.putBay b { s.bay b with latch := .opened, latchTimer := none }).handOpen b

/-- A reading of a latch sensor, by the latch state (R72 to R75). -/
def State.latchReads (s : State) (b : Bay) (reading : LatchReading) : State :=
  match (s.bay b).latch with
  | .closed => if reading = .closed then s else s.putBay b ((s.bay b).closing s.clock)
  | .opening => if reading = .opened then s.latchOpens b else s
  | .opened => if reading = .closed then s.latchCloses b else s
  | .closing => if reading = .closed then s.latchCloses b else s
  | .stuck => if reading = .closed then s.latchCloses b else s

/-- LATCH_SENSOR_CHANGE (R72 to R75; assumption log 24). -/
def execLatchSensorChange (b : Bay) (reading : LatchReading) (s : State) : Host.Outcome State Fault Refusal :=
  finish s ((s.setLatchPin b reading).latchReads b reading)

/-- Post LATCH_FAULT: direction, and the latch state after (R72, R74; 13). -/
def State.postLatchFault (s : State) (b : Bay) (d : LatchDirection) : State :=
  s.post .latchFault (some b) 0
    (bayPayload (s.serial b) [byte (directionCode d), byte (latchCode (s.bay b).latch)])

/-- The open is not confirmed: the latch is driven closed, LATCH_FAULT is posted, "open failed" is handed (R72). -/
def State.openUnconfirmed (s : State) (b : Bay) : State :=
  ((s.putBay b ((s.bay b).closing s.clock)).postLatchFault b .toOpen).handOpenFailed b

/-- OPEN_CONFIRM_EXPIRY (R72). -/
def execOpenConfirmExpiry (b : Bay) (s : State) : Host.Outcome State Fault Refusal :=
  match (s.bay b).latch, (s.bay b).latchTimer with
  | .opening, some t => finish s ((s.reach t).openUnconfirmed b)
  | _, _ => finish s s

/-- The bay context with its latch STUCK and the retry timer running for 2 s (R74). -/
def BayContext.stuckAt (c : BayContext) (now : Instant) : BayContext :=
  { c with latch := .stuck, latchTimer := some (now + ms 2000) }

/-- The close is not confirmed: STUCK, LATCH_FAULT, "stuck" is handed (R74). -/
def State.closeUnconfirmed (s : State) (b : Bay) : State :=
  ((s.putBay b ((s.bay b).stuckAt s.clock)).postLatchFault b .toClose).handStuck b

/-- CLOSE_CONFIRM_EXPIRY (R74). -/
def execCloseConfirmExpiry (b : Bay) (s : State) : Host.Outcome State Fault Refusal :=
  match (s.bay b).latch, (s.bay b).latchTimer with
  | .closing, some t => finish s ((s.reach t).closeUnconfirmed b)
  | _, _ => finish s s

/-- The retry: the latch is driven closed again for one travel, and the retry timer restarts (R74). -/
def State.retryLatch (s : State) (b : Bay) : State := s.putBay b ((s.bay b).stuckAt s.clock)

/-- RETRY_TIMER_EXPIRY (R74). -/
def execRetryTimerExpiry (b : Bay) (s : State) : Host.Outcome State Fault Refusal :=
  match (s.bay b).latch, (s.bay b).latchTimer with
  | .stuck, some t => finish s ((s.reach t).retryLatch b)
  | _, _ => finish s s

/-! ### Buttons (R77) -/

/-- The state with the BUTTON pin of a bay at a level. -/
def State.setButton (s : State) (b : Bay) (pressed : Bool) : State :=
  s.setBayPins b { s.bayPins b with button := pressed }

/-- The bay context after the BUTTON pin reads pressed or released (R77). -/
def BayContext.button (c : BayContext) (pressed : Bool) (now : Instant) : BayContext :=
  { c with
    pressTimer :=
      if pressed then
        (if c.releaseWait then c.pressTimer
          else match c.pressTimer with
            | some t => some t
            | none => some (now + ms 50))
      else none
    releaseWait := if pressed then c.releaseWait else false }

/-- BUTTON_CHANGE (R77). -/
def execButtonChange (b : Bay) (pressed : Bool) (s : State) : Host.Outcome State Fault Refusal :=
  finish s ((s.setButton b pressed).setBay b ((s.bay b).button pressed s.clock))

/-- A press is taken: the release-wait mark is set (R77). -/
def State.takePress (s : State) (b : Bay) : State :=
  s.setBay b { s.bay b with pressTimer := none, releaseWait := true }

/-- A release request with requester BUTTON: its refusal is reported by a notice (R77). -/
def State.buttonRequest (s : State) (b : Bay) : State :=
  match s.releaseResult b with
  | .refused r need best => s.postRefused b (s.serial b) r false need best
  | .granted k need best => s.grant b .button k need best

/-- PRESS_TIMER_EXPIRY (R77). -/
def execPressTimerExpiry (b : Bay) (s : State) : Host.Outcome State Fault Refusal :=
  match (s.bay b).pressTimer with
  | some t => finish s (((s.reach t).takePress b).buttonRequest b)
  | none => finish s s

end Sys2Proof.Machine
end

