-- ==== Sys2Proof/Machine/Drop.lean ====
section
/-! DEFINITION. The drop monitor: its samples, its timers, falls, impacts, settling and sensor losses (R133 to R155). -/

namespace Sys2Proof.Machine

/-! ### Samples and derived values (R133, R135, R137 to R139) -/

/-- A sample with its axes clamped to −16000 to +16000 mg (R135). -/
def accelClamped (a : Accel) : Accel :=
  { x := clampInt (-16000) 16000 a.x, y := clampInt (-16000) 16000 a.y, z := clampInt (-16000) 16000 a.z }

/-- Whether a clamped sample is clipped: an axis stands at −16000 or +16000 mg (R135). -/
def accelClipped (a : Accel) : Bool :=
  decide (a.x.natAbs = 16000) || decide (a.y.natAbs = 16000) || decide (a.z.natAbs = 16000)

/-- M: the squared magnitude of a sample (R135). -/
def accelSquared (a : Accel) : Nat := a.x.natAbs * a.x.natAbs + a.y.natAbs * a.y.natAbs + a.z.natAbs * a.z.natAbs

/-- Whether M is low (R133, R135). -/
def Thresholds.isLow (t : Thresholds) (m : Nat) : Bool := decide (m < t.freeFall * t.freeFall)

/-- Whether M is high (R133, R135). -/
def Thresholds.isHigh (t : Thresholds) (m : Nat) : Bool := decide (t.impact * t.impact ≤ m)

/-- Whether a high sample is a strike sample (R133, R135). -/
def Thresholds.isStrike (t : Thresholds) (m : Nat) : Bool := decide (t.strikeInUse * t.strikeInUse ≤ m)

/-- h_mm of a fall count (R137). -/
def fallHeight (n : Nat) : Nat := (n * n * 7661 + 500000) / 1000000

/-- The dominant axis of a sample: X before Y before Z (R138). -/
def dominantAxis (a : Accel) : Axis :=
  if a.y.natAbs ≤ a.x.natAbs ∧ a.z.natAbs ≤ a.x.natAbs then (if a.x < 0 then .xNeg else .xPos)
  else if a.z.natAbs ≤ a.y.natAbs then (if a.y < 0 then .yNeg else .yPos)
  else if a.z < 0 then .zNeg else .zPos

/-- The severity of a peak and a clipped mark (R139). -/
def severityOf (peak : Nat) (clipped : Bool) : Severity :=
  if clipped ∨ 16000 ≤ peak then .severe else if 8000 ≤ peak then .major else .minor

/-! ### Episodes (R131, R143, R146) -/

/-- The monitor with an episode: a new one, or the one that a guard tail timer kept, continued (R143, R146). -/
def DropMonitor.beginEpisode (d : DropMonitor) : DropMonitor :=
  { d with
    episode := match d.episode with
      | none => some { records := [], continued := false }
      | some e => some (if d.guardTail.isSome then { e with continued := true } else e)
    guardTail := none }

/-- Post FALL_START (R143, R150; 13). -/
def State.postFallStart (s : State) (n : Nat) : State :=
  s.post .fallStart none (flagBit 0 s.drop.continued)
    (leBytes 2 n ++ leBytes 2 (fallHeight n) ++ [byte s.drop.records.length])

/-- The monitor with its state replaced. -/
def State.setDrop (s : State) (d : DropMonitor) : State := { s with drop := d }

/-- Entry to FALLING from SUSPECT (R143). -/
def State.enterFalling (s : State) (n : Nat) : State :=
  ((s.setDrop { s.drop.beginEpisode with state := .falling, n := some n, r := some 0 }).addFallEntries).postFallStart n

/-- The impact window at its first high sample (R146). -/
def ImpactWindow.start (kind : ImpactKind) (n : Nat) (a : Accel) (uptime : Nat) : ImpactWindow :=
  { count := 1, kind := kind, n := n, firstHigh := uptime, peakM := accelSquared a, peakSample := a, clipped := accelClipped a }

/-- Entry to IMPACT (R146). -/
def State.enterImpact (s : State) (kind : ImpactKind) (n : Nat) (a : Accel) : State :=
  (s.setDrop { s.drop.beginEpisode with
    state := .impact, n := none, r := none, window := some (ImpactWindow.start kind n a s.uptime) }).addFallEntries

/-- Back to QUIET, with n removed (R142). -/
def State.enterQuiet (s : State) : State := s.setDrop { s.drop with state := .quiet, n := none, r := none }

/-- The episode ends: the FALL entries leave, the settling end is handed, and the episode is removed (R145, R151,
R153). -/
def State.endEpisode (s : State) : State :=
  let after := s.removeFallEntries.settlingEnd s.drop.records
  after.setDrop { after.drop with episode := none }

/-- The fall is caught (R145). -/
def State.caught (s : State) (n : Nat) : State :=
  ((s.endEpisode).enterQuiet).post .fallCaught none (flagBit 0 s.drop.continued)
    (leBytes 2 n ++ leBytes 2 (fallHeight n))

/-! ### Impacts (R147, R148) -/

/-- The window after a good sample: the count rises, a greater M replaces the peak, a clipped sample sets the mark
(R146). -/
def ImpactWindow.sample (w : ImpactWindow) (a : Accel) : ImpactWindow :=
  { w with
    count := w.count + 1
    peakM := if w.peakM < accelSquared a then accelSquared a else w.peakM
    peakSample := if w.peakM < accelSquared a then a else w.peakSample
    clipped := w.clipped || accelClipped a }

/-- The window after a missing sample (R136). -/
def ImpactWindow.miss (w : ImpactWindow) : ImpactWindow := { w with count := w.count + 1 }

/-- The record that a window opens, with the sequence that the store returns (R147). -/
def State.windowRecord (s : State) (w : ImpactWindow) (sensorLost : Bool) : ImpactRecord :=
  { sequence := s.impact.openSequence
    uptime := w.firstHigh
    kind := w.kind
    n := w.n
    height := fallHeight w.n
    peakM := w.peakM
    peak := isqrt w.peakM
    axis := dominantAxis w.peakSample
    severity := severityOf (isqrt w.peakM) w.clipped
    clipped := w.clipped
    bounces := 0
    platform := s.power.platform
    bayStateA := s.bayA.state
    bayStateB := s.bayB.state
    joltA := .none
    joltB := .none
    stampA := .none
    stampB := .none
    sensorLost := sensorLost
    isOpen := true
    closedUptime := 0
    closedAt := 0
    pinned := false }

/-- The target of a fold as the fold amends it (R148; assumption log 27). -/
def ImpactRecord.fold (r : ImpactRecord) (w : ImpactWindow) (sensorLost : Bool) : ImpactRecord :=
  { r with
    bounces := min 255 (r.bounces + 1)
    peakM := if r.peakM < w.peakM then w.peakM else r.peakM
    peak := if r.peakM < w.peakM then isqrt w.peakM else r.peak
    axis := if r.peakM < w.peakM then dominantAxis w.peakSample else r.axis
    clipped := r.clipped || w.clipped
    severity :=
      if r.peakM < w.peakM then severityOf (isqrt w.peakM) (r.clipped || w.clipped)
      else if w.clipped then .severe else r.severity
    n := if r.n < w.n then w.n else r.n
    height := if r.n < w.n then fallHeight w.n else r.height
    sensorLost := r.sensorLost || sensorLost }

/-- Post IMPACT with a record's values (R147, R148, R152; 13). -/
def State.postImpact (s : State) (r : ImpactRecord) (folded sensorLost : Bool) : State :=
  s.post .impact none (flagBit 0 r.clipped + flagBit 1 folded + flagBit 2 sensorLost)
    (leBytes 4 r.sequence ++ [byte (impactKindCode r.kind)] ++ leBytes 2 r.n ++ leBytes 2 r.height ++
      leBytes 2 r.peak ++ [byte (axisCode r.axis), byte (severityCode r.severity)])

/-- The episode's record list with a sequence at its end (R147). With the counter exhausted every impact adds a 0, beyond
the second too (assumption log 43). -/
def DropMonitor.addRecord (d : DropMonitor) (sequence : Nat) : DropMonitor :=
  { d with
    episode := match d.episode with
      | some e => some { e with records := e.records ++ [sequence] }
      | none => none }

/-- A record is opened, and IMPACT is posted (R147, R159). -/
def State.openImpact (s : State) (w : ImpactWindow) (sensorLost : Bool) : State :=
  (((s.putImpact (s.impact.openRecord (s.windowRecord w sensorLost))).setDrop
    (s.drop.addRecord s.impact.openSequence)).postImpact (s.windowRecord w sensorLost) false
      sensorLost).setNews newsImpact

/-- The impact is folded into the newest open record, and IMPACT is posted (R148, R160). The fold of a lost sensor hands its
sensor-lost mark in the same amendment (R152; DESIGN CHOICE, assumption log 7). -/
def State.foldImpact (s : State) (target : ImpactRecord) (w : ImpactWindow) (sensorLost : Bool) : State :=
  ((s.amend target.sequence (fun r => r.fold w sensorLost)).postImpact (target.fold w sensorLost) true
    sensorLost).setNews newsImpact

/-- The record that a fold goes to: the newest open one, when two records are open (R147, R148). -/
def ImpactStore.foldTarget (u : ImpactStore) : Option ImpactRecord := if u.openCount < 2 then none else u.newestOpen

/-- The impact of a window is recorded or folded, and the window is removed (R147, R148). -/
def State.recordImpact (s : State) (w : ImpactWindow) (sensorLost : Bool) : State :=
  let s := s.setDrop { s.drop with window := none }
  match s.impact.foldTarget with
  | some t => s.foldImpact t w sensorLost
  | none => s.openImpact w sensorLost

/-- The sequence of the target record that an impact leaves (R147, R148). -/
def ImpactStore.targetSequence (u : ImpactStore) : Nat :=
  match u.foldTarget with
  | some t => t.sequence
  | none => u.openSequence

/-- Entry to SETTLING with a target record (R147). -/
def State.enterSettling (s : State) (target : Nat) : State :=
  s.setDrop { s.drop with
    state := .settling
    settling := some
      { settleTimer := s.inMs s.drop.thresholds.settle, capTimer := s.inMs 4000, q := 0, inBounce := true
        target := target } }

/-- The window goes on, or ends at the sample that brings its count to 16 (R146, R147). -/
def State.windowTo (s : State) (w : ImpactWindow) : State :=
  if w.count < 16 then s.setDrop { s.drop with window := some w }
  else (s.recordImpact w false).enterSettling s.impact.targetSequence

/-! ### Settling (R149 to R151) -/

/-- The target as a high sample in SETTLING amends it; `fresh` for a new bounce (R149). -/
def ImpactRecord.bounce (r : ImpactRecord) (a : Accel) (fresh : Bool) : ImpactRecord :=
  { r with
    bounces := if fresh then min 255 (r.bounces + 1) else r.bounces
    peakM := if r.peakM < accelSquared a then accelSquared a else r.peakM
    peak := if r.peakM < accelSquared a then isqrt (accelSquared a) else r.peak
    axis := if r.peakM < accelSquared a then dominantAxis a else r.axis
    clipped := r.clipped || accelClipped a
    severity :=
      if r.peakM < accelSquared a then severityOf (isqrt (accelSquared a)) (r.clipped || accelClipped a)
      else if accelClipped a then .severe else r.severity }

/-- A high sample in SETTLING (R149). All that it changes of the target, a new bounce, a higher peak and a clipped mark, is
handed as one amendment, and the place is rewritten once: R149 hands "each change to the target" as "an amendment", which
leaves open whether several changes of one sample are one (DESIGN CHOICE, assumption log 7). -/
def State.settlingHigh (s : State) (g : Settling) (a : Accel) : State :=
  (s.amend g.target (fun r => r.bounce a (!g.inBounce))).setDrop { s.drop with
    settling := some { g with settleTimer := s.inMs s.drop.thresholds.settle, q := 0, inBounce := true } }

/-- The ground is left again: SETTLING to FALLING (R150). -/
def State.fallAgain (s : State) (q : Nat) : State :=
  (s.setDrop { s.drop with
    state := .falling
    n := some q
    r := some 0
    settling := none
    episode := match s.drop.episode with
      | some e => some { e with continued := true }
      | none => none }).postFallStart q

/-- A good sample in SETTLING, by its judgement (R149, R150). -/
def State.settlingSample (s : State) (g : Settling) (a : Accel) : State :=
  if s.drop.thresholds.isHigh (accelSquared a) then s.settlingHigh g a
  else if s.drop.thresholds.isLow (accelSquared a) then
    if s.drop.thresholds.run ≤ g.q + 1 then s.fallAgain (g.q + 1)
    else s.setDrop { s.drop with settling := some { g with q := g.q + 1, inBounce := false } }
  else s.setDrop { s.drop with settling := some { g with q := 0, inBounce := false } }

/-- SETTLING ends (R151). -/
def State.settled (s : State) : State := (s.setDrop { s.drop with settling := none }).endEpisode.enterQuiet

/-! ### Good samples (R141, R142, R144) -/

/-- A good sample in QUIET (R141); a high one in SUSPECT is taken so too (R142). -/
def State.quietSample (s : State) (a : Accel) : State :=
  if s.drop.thresholds.isLow (accelSquared a) then s.setDrop { s.drop with state := .suspect, n := some 1 }
  else if s.drop.thresholds.isHigh (accelSquared a) && s.drop.thresholds.isStrike (accelSquared a) then s.enterImpact .strike 0 a
  else s.enterQuiet

/-- A good sample in SUSPECT (R142). -/
def State.suspectSample (s : State) (n : Nat) (a : Accel) : State :=
  if s.drop.thresholds.isLow (accelSquared a) then
    if s.drop.thresholds.run ≤ n + 1 then s.enterFalling (n + 1) else s.setDrop { s.drop with n := some (n + 1) }
  else s.quietSample a

/-- n after a sample period of a fall (R136, R144). -/
def fallCount (n : Nat) : Nat := min 2047 (n + 1)

/-- A good sample in FALLING (R144). -/
def State.fallingSample (s : State) (n r : Nat) (a : Accel) : State :=
  if s.drop.thresholds.isHigh (accelSquared a) then s.enterImpact .drop n a
  else if s.drop.thresholds.isLow (accelSquared a) then s.setDrop { s.drop with n := some (fallCount n), r := some 0 }
  else if 8 ≤ r + 1 then s.caught (fallCount n)
  else s.setDrop { s.drop with n := some (fallCount n), r := some (r + 1) }

/-- A good sample of clamped axes, by the monitor state; the missing count is set to 0 (R135). -/
def State.goodSample (s : State) (a : Accel) : State :=
  let s := s.setDrop { s.drop with missing := 0 }
  match s.drop.state with
  | .quiet => s.quietSample a
  | .suspect => s.suspectSample (s.drop.n.getD 0) a
  | .falling => s.fallingSample (s.drop.n.getD 0) (s.drop.r.getD 0) a
  | .impact =>
    match s.drop.window with
    | some w => s.windowTo (w.sample a)
    | none => s
  | .settling =>
    match s.drop.settling with
    | some g => s.settlingSample g a
    | none => s
  | .starting => s
  | .offline => s

/-! ### Sensor losses (R152) -/

/-- The sensor-lost mark on the records of a list (R152). -/
def State.markLost (s : State) (records : List Nat) : State :=
  records.foldl (fun s q => s.amend q (fun r => { r with sensorLost := true })) s

/-- The guard tail timer starts, unless it already runs (R152, R154). -/
def State.startGuardTail (s : State) : State :=
  s.setDrop { s.drop with
    guardTail := match s.drop.guardTail with
      | some t => some t
      | none => some (s.inMs 500) }

/-- What a lost sensor does to a fall, by the state left (R152, R154). -/
def State.loseFall (s : State) : State :=
  match s.drop.state with
  | .falling => ((s.setDrop { s.drop with n := none, r := none }).markLost s.drop.records).startGuardTail
  | .impact =>
    match s.drop.window with
    | some w =>
      let s := s.recordImpact w true
      (s.markLost s.drop.records).startGuardTail
    | none => (s.markLost s.drop.records).startGuardTail
  | .settling =>
    match s.drop.settling with
    | some g =>
      ((s.setDrop { s.drop with settling := none }).markLost (s.drop.records ++ [g.target])).startGuardTail
    | none => (s.markLost s.drop.records).startGuardTail
  | .starting => s
  | .quiet => s
  | .suspect => s
  | .offline => s

/-- Post SENSOR_FAULT: state left, missing count; flag 0 is the guard-tail flag (R152; 13). -/
def State.postSensorFault (s : State) (left : MonitorState) : State :=
  s.post .sensorFault none (flagBit 0 s.drop.guardTail.isSome) [byte (monitorCode left), byte s.drop.missing]

/-- The sensor is lost: OFFLINE, and the sample period stops (R152). -/
def State.sensorLost (s : State) : State :=
  let after := s.loseFall
  (after.setDrop { after.drop with state := .offline, n := none, r := none, sampleDue := none }).postSensorFault
    s.drop.state

/-- What a missing sample does, by the monitor state (R136). -/
def State.missEffect (s : State) : State :=
  match s.drop.state with
  | .falling => s.setDrop { s.drop with n := some (fallCount (s.drop.n.getD 0)) }
  | .impact =>
    match s.drop.window with
    | some w => s.windowTo w.miss
    | none => s
  | .starting => s
  | .quiet => s
  | .suspect => s
  | .settling => s
  | .offline => s

/-- A missing sample: the missing count rises, and at 4 the sensor is lost (R136, R152). -/
def State.missSample (s : State) : State :=
  let s := s.setDrop { s.drop with missing := s.drop.missing + 1 }
  if 4 ≤ s.drop.missing then s.sensorLost else s.missEffect

/-! ### Sample commands -/

/-- The state at a sample's due point, with the next one 1.25 ms on (R135). -/
def State.atSample (s : State) (due : Instant) : State :=
  (s.reach due).setDrop { s.drop with sampleDue := some (due + 5) }

/-- A sample, good or missing. -/
def State.sample (s : State) (reading : Option Accel) : State :=
  match reading with
  | some a => s.goodSample (accelClamped a)
  | none => s.missSample

/-- The end of a command of the monitor: its section is rewritten too when records have changed (R156). -/
def finishDrop (before after : State) : Host.Outcome State Fault Refusal :=
  finishWith { drop := before.impact.places != after.impact.places } before after

/-- Whether a sample of clamped axes hands the store an amendment of the target record in SETTLING, whether the store takes
it or drops it: a new bounce, or a higher peak or a clipped mark of the record (R149, R160). -/
def State.handsBounce (s : State) (a : Accel) : Bool :=
  match s.drop.state, s.drop.settling with
  | .settling, some g =>
    s.drop.thresholds.isHigh (accelSquared a) && (!g.inBounce || (match s.impact.record g.target with
      | some r => r.bounce a false != r
      | none => false))
  | _, _ => false

/-- ACCEL_SAMPLE (R135); an amendment that it hands rewrites the monitor's section (R156). -/
def execAccelSample (reading : Accel) (s : State) : Host.Outcome State Fault Refusal :=
  match s.drop.sampleDue with
  | some t =>
    if s.handsBounce (accelClamped reading) then finishWith { drop := true } s ((s.atSample t).sample (some reading))
    else finishDrop s ((s.atSample t).sample (some reading))
  | none => finish s s

/-- MISSING_SAMPLE (R136). -/
def execMissingSample (s : State) : Host.Outcome State Fault Refusal :=
  match s.drop.sampleDue with
  | some t => finishDrop s ((s.atSample t).sample none)
  | none => finish s s

/-- SENSOR_LOSS: the missing sample that brings the missing count to 4 (R152; assumption log 5). -/
def execSensorLoss (s : State) : Host.Outcome State Fault Refusal :=
  match s.drop.sampleDue with
  | some t => if s.drop.missing = 3 then finishDrop s ((s.atSample t).sample none) else finish s s
  | none => finish s s

/-- Whether the next sample ends the impact window (R146). -/
def DropMonitor.windowFull (d : DropMonitor) : Bool :=
  decide (d.state = .impact) && (match d.window with
    | some w => decide (w.count = 15)
    | none => false)

/-- IMPACT_WINDOW_END: the sample that brings the window count to 16 (R147; assumption log 5). -/
def execImpactWindowEnd (reading : Option Accel) (s : State) : Host.Outcome State Fault Refusal :=
  match s.drop.sampleDue with
  | some t => if s.drop.windowFull then finishDrop s ((s.atSample t).sample reading) else finish s s
  | none => finish s s

/-! ### Timer commands -/

/-- SETTLE_TIMER_EXPIRY (R151). -/
def execSettleTimerExpiry (s : State) : Host.Outcome State Fault Refusal :=
  match s.drop.settling with
  | some g => finishDrop s (s.reach g.settleTimer).settled
  | none => finish s s

/-- SETTLING_CAP_EXPIRY (R151). -/
def execSettlingCapExpiry (s : State) : Host.Outcome State Fault Refusal :=
  match s.drop.settling with
  | some g => finishDrop s (s.reach g.capTimer).settled
  | none => finish s s

/-- GUARD_TAIL_EXPIRY (R153). -/
def execGuardTailExpiry (s : State) : Host.Outcome State Fault Refusal :=
  match s.drop.guardTail with
  | some t => finishDrop s ((s.reach t).setDrop { s.drop with guardTail := none }).endEpisode
  | none => finish s s

/-- The answer data of a sensor PORT_RESET: the port and the monitor state (R140; 13). -/
def sensorResetData (m : MonitorState) : List Byte := [1, byte (monitorCode m)]

/-- STARTING ends: QUIET, the sample period starts, and the slot is answered DONE (R140). -/
def State.started (s : State) (g : Starting) : State :=
  let s := s.setDrop { s.drop with
    state := .quiet, missing := 0, starting := none, sampleDue := some (s.clock + 5) }
  match g.slot with
  | some (k, acceptance) => s.answerAccepted k acceptance .done .none (sensorResetData .quiet)
  | none => s

/-- STARTING_TIMER_EXPIRY (R140). -/
def execStartingTimerExpiry (s : State) : Host.Outcome State Fault Refusal :=
  match s.drop.starting with
  | some g => finishDrop s ((s.reach g.timer).started g)
  | none => finish s s

end Sys2Proof.Machine
end

