-- ==== Sys2Proof/Machine/Bright.lean ====
section
/-! DEFINITION. The brightness unit: its step, the display, and the allowance cap (R109 to R124). -/

namespace Sys2Proof.Machine

/-! ### The quantities of a step -/

/-- An ambient reading: the value and the fault mark after it (R109). -/
def ambientAfter (r : AmbientReading) (held : Nat) : Nat :=
  match r with
  | .valid lux => (clampInt 0 120000 lux).toNat
  | .missing => held

/-- Whether an ambient reading sets its fault mark (R109). -/
def ambientFaulty : AmbientReading → Bool
  | .valid _ => false
  | .missing => true

/-- P after a panel reading (R110). -/
def panelAfter (r : PanelReading) (held : Int) : Int :=
  match r with
  | .valid t => clampInt (-40) 105 t
  | .openCircuit => 85
  | .missing => held

/-- PANEL_FAULT after a panel reading (R110). -/
def panelFaulty : PanelReading → Bool
  | .valid _ => false
  | .openCircuit => false
  | .missing => true

/-- PANEL_OPEN after a panel reading (R110). -/
def panelOpenAfter (r : PanelReading) (held : Bool) : Bool :=
  match r with
  | .valid _ => false
  | .openCircuit => true
  | .missing => held

/-- The effective ambient E (R112). -/
def effectiveAmbient (front top : Nat) : Nat := max front (top / 4)

/-- A16 after the filter has moved toward E (R113). -/
def filterStep (a16 ambient : Nat) : Nat :=
  if a16 < ambient * 16 then a16 + divUp (ambient * 16 - a16) 2
  else a16 - divUp (a16 - ambient * 16) 16

/-- The luminance on a segment, the division truncated toward zero (R114). -/
def interpolate (p q : CurvePoint) (a : Nat) : Nat :=
  ((p.nits : Int) + Int.tdiv (((q.nits : Int) - p.nits) * ((a : Int) - p.lux)) ((q.lux : Int) - p.lux)).toNat

/-- The luminance from the last point at or below A on (R114). -/
def curveFrom (a : Nat) : List CurvePoint → Nat
  | [] => 0
  | [p] => p.nits
  | p :: q :: ps => if a < q.lux then interpolate p q a else curveFrom a (q :: ps)

/-- T0: A looked up in the curve table (R114). -/
def curveLuminance (curve : List CurvePoint) (a : Nat) : Nat :=
  match curve with
  | [] => 0
  | p :: ps => if a ≤ p.lux then p.nits else curveFrom a (p :: ps)

/-- T1: the mode luminance (R115). -/
def modeLuminance (mode : BrightMode) (t0 : Nat) (offset : Int) (manual : Nat) : Nat :=
  match mode with
  | .auto => (clampInt 20 1400 ((t0 : Int) * (100 + offset) / 100)).toNat
  | .manual => manual
  | .night => clamp 20 40 manual

/-- L_therm: the thermal limit (R116). -/
def thermalLimit (p : Int) : Nat :=
  if p ≤ 60 then 1400 else if 85 ≤ p then 400 else (1400 - (p - 60) * 40).toNat

/-- L_power: the power limit of an allowance (R117). -/
def powerLimit (allowance : Nat) : Nat := (allowance - 300) / 7

/-- The drive duty of a luminance with the display ON (R120). -/
def dutyOf (c : Nat) : Nat := (c * 4095 + 700) / 1400

/-- The smallest term, the first of CURVE, THERMAL, POWER on a tie (R118). -/
def limiterOf (t1 lTherm lPower : Nat) : Limiter :=
  if t1 ≤ lTherm ∧ t1 ≤ lPower then .curve else if lTherm ≤ lPower then .thermal else .power

/-- C after the slew toward the goal (R119). -/
def slew (c goal : Nat) : Nat :=
  if c < goal then c + min 60 (goal - c) else c - min 20 (c - goal)

/-! ### Changes of the unit -/

/-- Stages 1 and 2: the sensors and E (R109, R110, R112). -/
def BrightUnit.sense (u : BrightUnit) (front top : AmbientReading) (panel : PanelReading) : BrightUnit :=
  { u with
    front := ambientAfter front u.front
    top := ambientAfter top u.top
    panel := panelAfter panel u.panel
    frontFault := ambientFaulty front
    topFault := ambientFaulty top
    panelFault := panelFaulty panel
    panelOpen := panelOpenAfter panel u.panelOpen
    ambient := effectiveAmbient (ambientAfter front u.front) (ambientAfter top u.top) }

/-- Stage 3: the filter, held while frozen (R113, R125). -/
def BrightUnit.filter (u : BrightUnit) : BrightUnit :=
  { u with a16 := if u.frozen then u.a16 else filterStep u.a16 u.ambient }

/-- Stages 4 to 7, the limits (R114 to R117). -/
def BrightUnit.limits (u : BrightUnit) (allowance : Nat) : BrightUnit :=
  { u with
    t0 := curveLuminance u.curve u.filtered
    t1 := modeLuminance u.mode (curveLuminance u.curve u.filtered) u.offset u.manual
    lTherm := thermalLimit u.panel
    lPower := powerLimit allowance }

/-- The cap: with the display ON, a C above the limit becomes the limit, and the duty is set from it (R117, R124). -/
def BrightUnit.cap (u : BrightUnit) (limit : Nat) : BrightUnit :=
  { u with
    c := if u.display ∧ limit < u.c then limit else u.c
    duty := if u.display ∧ limit < u.c then dutyOf limit else u.duty }

/-- Stage 8: the goal and limited_by (R118). -/
def BrightUnit.aim (u : BrightUnit) : BrightUnit :=
  { u with
    goal := min u.t1 (min u.lTherm u.lPower)
    limitedBy := if u.display then limiterOf u.t1 u.lTherm u.lPower else .none }

/-- Stages 9 and 10: the slew and the drive (R119, R120). -/
def BrightUnit.drive (u : BrightUnit) : BrightUnit :=
  { u with
    c := if u.display ∧ ¬ u.frozen then slew u.c u.goal else u.c
    duty := if u.display then dutyOf (if u.frozen then u.c else slew u.c u.goal) else 0 }

/-- The unit after a brightness step (R111). -/
def BrightUnit.step (u : BrightUnit) (front top : AmbientReading) (panel : PanelReading) (allowance : Nat) :
    BrightUnit :=
  (((((u.sense front top panel).filter).limits allowance).cap (powerLimit allowance)).aim).drive

/-- The unit after an allowance-change event (R124). -/
def BrightUnit.allowanceChange (u : BrightUnit) (allowance : Nat) : BrightUnit := u.cap (powerLimit allowance)

/-- The unit with the display worked out again from the setting and the platform state (R121, R123). -/
def BrightUnit.workDisplay (u : BrightUnit) (platform : Platform) : BrightUnit :=
  if u.displaySetting = true ∧ platform = .run then
    if u.display then u else { u with display := true, c := 20, duty := dutyOf 20 }
  else if u.display then { u with display := false, c := 20, duty := 0, limitedBy := .none }
  else u

/-! ### The command -/

/-- Whether a step posts BRIGHT_LIMITED: limited_by has changed to THERMAL or POWER (R118). -/
def limitedNews (before after : Limiter) : Bool :=
  decide (before ≠ after) && (decide (after = .thermal) || decide (after = .power))

/-- The payload of BRIGHT_LIMITED (R118; 13). -/
def limitedPayload (before : Limiter) (u : BrightUnit) (allowance : Nat) : List Byte :=
  [byte (limiterCode u.limitedBy), byte (limiterCode before)] ++ leBytes 2 u.goal ++ leBytes 2 u.t1 ++
    leBytes 2 u.lTherm ++ leBytes 2 u.lPower ++ leBytes 2 u.c ++ leSigned 2 u.panel ++ leBytes 4 allowance

/-- The state after a brightness step (R111, R118). -/
def State.brightStep (s : State) (front top : AmbientReading) (panel : PanelReading) : State :=
  let u := s.bright.step front top panel s.power.allowance
  let after : State := { s with bright := { u with stepDue := s.bright.stepDue + 400 } }
  if limitedNews s.bright.limitedBy u.limitedBy then
    after.post .brightLimited none 0 (limitedPayload s.bright.limitedBy u s.power.allowance)
  else after

/-- BRIGHTNESS_STEP (R111, R130). -/
def execBrightnessStep (front top : AmbientReading) (panel : PanelReading) (s : State) :
    Host.Outcome State Fault Refusal :=
  finishWith { bright := true } s ((s.reach s.bright.stepDue).brightStep front top panel)

end Sys2Proof.Machine
end

