-- ==== Sys2Proof/Machine/Power.lean ====
section
/-! DEFINITION. The commands of the power unit: the adapter, the rail samples and the budget step (R47 to R61, R67). -/

namespace Sys2Proof.Machine

/-! ### The adapter (R47 to R49) -/

/-- The debounce after a level of DC_PRESENT (R47). -/
def PowerUnit.debounced (p : PowerUnit) (level : Bool) (now : Instant) : PowerUnit :=
  { p with
    debounce :=
      if level = p.dc.isSome then none
      else
        match p.debounce with
        | some d => some d
        | none => some { timer := now + ms 50, level := level } }

/-- The state with the DC_PRESENT pin at a level. -/
def State.setDcPin (s : State) (level : Bool) : State := { s with pins := { s.pins with dcPresent := level } }

/-- DC_PRESENT_CHANGE (R47). -/
def execDcPresentChange (level : Bool) (s : State) : Host.Outcome State Fault Refusal :=
  finish s { s.setDcPin level with power := s.power.debounced level s.clock }

/-- The DC state becomes PRESENT with a rating class (R48). -/
def State.dcArrives (s : State) (id : DcClass) : State :=
  State.setNews { s with power := { s.power with debounce := none, dc := some id } } newsPower

/-- The DC state becomes ABSENT: allocations 0 mW, and a DC-loss event to the swap controller (R49, R90). -/
def State.dcLeaves (s : State) : State :=
  (State.setNews
    { s with
      power := { s.power with debounce := none, dc := none, chargeBridge := 0, chargeA := 0, chargeB := 0 } }
    newsPower).lossOf .dc

/-- DC_DEBOUNCE_EXPIRY: the DC state takes the confirmed level (R47 to R49). -/
def execDcDebounceExpiry (id : DcClass) (s : State) : Host.Outcome State Fault Refusal :=
  match s.power.debounce with
  | some d => finish s (if d.level then (s.reach d.timer).dcArrives id else (s.reach d.timer).dcLeaves)
  | none => finish s s

/-! ### Rail samples (R50) -/

/-- The last ten of the samples (R50). -/
def lastTen (samples : List Nat) : List Nat := samples.drop (samples.length - 10)

/-- RAIL_SAMPLE (R50). -/
def execRailSample (milliwatts : Int) (s : State) : Host.Outcome State Fault Refusal :=
  finish s
    { s.reach s.power.railDue with
      power := { s.power with
        samples := lastTen (s.power.samples ++ [(clampInt 0 150000 milliwatts).toNat])
        railDue := s.power.railDue + 40 } }

/-! ### The budget step (R51 to R61, R67) -/

/-- P_sys (R52). -/
def meanLoad (samples : List Nat) : Nat := if samples.isEmpty then 0 else min 150000 (samples.sum / samples.length)

/-- P_bl (R52). -/
def backlightPower (u : BrightUnit) : Nat := if u.display then 300 + 7 * u.c else 0

/-- Stage 1 (R52). -/
def PowerUnit.measure (p : PowerUnit) (u : BrightUnit) : PowerUnit :=
  { p with
    pSys := meanLoad p.samples
    pBl := backlightPower u
    lBase := meanLoad p.samples - backlightPower u }

/-- What a bay adds to S in PACKS: its max discharge, while it supplies and has energy left (R53). -/
def BayContext.supplyOf (c : BayContext) : Nat := if c.pathClosed ∧ 0 < c.remaining then c.maxDischarge else 0

/-- Stage 2: the supply mode (R53). -/
def modeOf (dc : Option DcClass) (a b : BayContext) : SupplyMode :=
  if dc.isSome then .dc else if a.pathClosed ∨ b.pathClosed then .packs else .bridge

/-- Stage 2: S (R53). -/
def supplyOf (p : PowerUnit) (a b : BayContext) : Nat :=
  match modeOf p.dc a b with
  | .dc => p.dcRating
  | .packs => a.supplyOf + b.supplyOf
  | .bridge => 12000

/-- Stage 3: the backlight allowance (R54). -/
def allowanceOf (supply lBase : Nat) : Nat := clamp 440 10100 (supply - lBase - 1000)

/-- Stage 4: E_br after the debit and the credit (R59). -/
def bridgeAfter (p : PowerUnit) (before after : SupplyMode) : Nat :=
  (clampInt 0 20000000 ((p.bridgeEnergy : Int) -
    (if before = .bridge ∨ after = .bridge then (divUp p.pSys 10 : Nat) else (0 : Nat)) +
    (if p.dc.isSome then (p.chargeBridge / 10 : Nat) else (0 : Nat)))).toNat

/-- Stages 2 to 4 (R53, R54, R59). -/
def PowerUnit.supplyStages (p : PowerUnit) (a b : BayContext) : PowerUnit :=
  { p with
    mode := modeOf p.dc a b
    supply := supplyOf p a b
    allowance := allowanceOf (supplyOf p a b) p.lBase
    bridgeEnergy := bridgeAfter p p.mode (modeOf p.dc a b) }

/-- H (R56). -/
def PowerUnit.headroomOf (p : PowerUnit) : Nat := if p.dc.isSome then p.supply - p.lBase - p.pBl - 1000 else 0

/-- The bridge allocation (R56). -/
def PowerUnit.bridgeShare (p : PowerUnit) : Nat :=
  if p.dc.isSome ∧ p.bridgeEnergy < 19000000 then min 1500 p.headroomOf else 0

/-- Whether a bay is eligible for charge power (R57). -/
def BayContext.eligible (c : BayContext) : Bool :=
  decide (c.state = .online) && c.chargeEnable && decide (c.charge < c.chargeLimit) &&
    (match c.gauge with
      | some g => decide (0 ≤ g.temperature ∧ g.temperature ≤ 450)
      | none => false)

/-- What a bay takes of the rest (R57). -/
def BayContext.take (c : BayContext) (rest : Nat) : Nat := if c.eligible then min rest c.maxCharge else 0

/-- The allocations of bay A and bay B out of the rest: the lower relative charge first, bay A on a tie (R57). -/
def shares (a b : BayContext) (rest : Nat) : Nat × Nat :=
  if b.eligible ∧ b.charge < a.charge then (a.take (rest - b.take rest), b.take rest)
  else (a.take rest, b.take (rest - a.take rest))

/-- Stage 5 (R56, R57). -/
def PowerUnit.chargeStage (p : PowerUnit) (a b : BayContext) : PowerUnit :=
  { p with
    headroom := p.headroomOf
    chargeBridge := p.bridgeShare
    chargeA := (shares a b (p.headroomOf - p.bridgeShare)).1
    chargeB := (shares a b (p.headroomOf - p.bridgeShare)).2 }

/-- The carrying episode as a step finds it: a new one when the mode has just become BRIDGE (R60). -/
def episodeAt (before : SupplyMode) (e : Option CarryingEpisode) : CarryingEpisode :=
  if before = .bridge then e.getD { lowPosted := false, critical := false, runtime := 0 }
  else { lowPosted := false, critical := false, runtime := 0 }

/-- runtime_s (R60). -/
def runtimeOf (bridgeEnergy pSys : Nat) : Nat := bridgeEnergy / max pSys 1

/-- Stage 6: the episode after the step (R60, R61). -/
def PowerUnit.episodeStage (p : PowerUnit) (before : SupplyMode) : PowerUnit :=
  { p with
    episode :=
      if p.mode = .bridge then
        some
          { lowPosted := (episodeAt before p.episode).lowPosted || decide (runtimeOf p.bridgeEnergy p.pSys < 60)
            critical := (episodeAt before p.episode).critical || decide (runtimeOf p.bridgeEnergy p.pSys < 15)
            runtime := runtimeOf p.bridgeEnergy p.pSys }
      else none }

/-- The power unit after stages 1 to 6 (R51). -/
def PowerUnit.stages (p : PowerUnit) (u : BrightUnit) (a b : BayContext) : PowerUnit :=
  ((((p.measure u).supplyStages a b).chargeStage a b).episodeStage p.mode)

/-- The payload of BRIDGE_LOW and BRIDGE_CRITICAL (R60, R61; 13). -/
def bridgePayload (p : PowerUnit) : List Byte := leBytes 4 p.runtime ++ leBytes 4 p.bridgeEnergy ++ leBytes 4 p.pSys

/-- The marks that an episode held before the step: those of an episode that goes on (R60). -/
def PowerUnit.markedLow (p : PowerUnit) : Bool := decide (p.mode = .bridge) && p.lowPosted

/-- See `markedLow`; the bridge-critical mark (R61). -/
def PowerUnit.markedCritical (p : PowerUnit) : Bool := decide (p.mode = .bridge) && p.critical

/-- The warnings of stage 6: BRIDGE_LOW, then BRIDGE_CRITICAL with news POWER (R60, R61). -/
def State.bridgeWarnings (s : State) (before : PowerUnit) : State :=
  let s := if s.power.lowPosted && !before.markedLow then s.post .bridgeLow none 0 (bridgePayload s.power) else s
  if s.power.critical && !before.markedCritical then
    (s.post .bridgeCritical none 0 (bridgePayload s.power)).setNews newsPower
  else s

/-- Stage 7: the carrier test of a release with carrier BRIDGE (R67). -/
def State.bridgeTest (s : State) : State :=
  if s.power.bridgeCarries s.swapWindow then s else s.lossOf .bridge

/-- The number of supplying bays (R55). -/
def supplyingBays (a b : BayContext) : Nat := flagBit 0 a.pathClosed + flagBit 0 b.pathClosed

/-- The payload of SOURCE_CHANGE (R55; 13). While the DC state is ABSENT its rating class is 0 (assumption log 40). -/
def sourcePayload (before : SupplyMode) (p : PowerUnit) (supplying : Nat) : List Byte :=
  [byte (modeCode p.mode), byte (modeCode before), byte p.dcCode, byte supplying] ++ leBytes 4 p.dcRating ++
    leBytes 4 p.supply ++ leBytes 4 p.allowance

/-- Stage 8: SOURCE_CHANGE and news POWER when the mode has changed (R55). -/
def State.sourceNotice (s : State) (before : SupplyMode) (supplying : Nat) : State :=
  if s.power.mode = before then s
  else (s.post .sourceChange none 0 (sourcePayload before s.power supplying)).setNews newsPower

/-- The brightness unit takes the allowance-change event, if W_bl differs (R54, R124). -/
def BrightUnit.allowanceEvent (u : BrightUnit) (before after : Nat) : BrightUnit :=
  if before = after then u else u.allowanceChange after

/-- The state after stages 1 to 6 without their notices, and the next step's due point (R51). -/
def State.budgetStages (s : State) : State :=
  { s with
    power := { s.power.stages s.bright s.bayA s.bayB with budgetDue := s.power.budgetDue + 400 }
    bright := s.bright.allowanceEvent s.power.allowance (s.power.stages s.bright s.bayA s.bayB).allowance }

/-- The state after a budget step (R51). -/
def State.budget (s : State) : State :=
  ((s.budgetStages.bridgeWarnings s.power).bridgeTest).sourceNotice s.power.mode (supplyingBays s.bayA s.bayB)

/-- BUDGET_STEP (R51, R64). -/
def execBudgetStep (s : State) : Host.Outcome State Fault Refusal :=
  finishWith { sources := true } s (s.reach s.power.budgetDue).budget

end Sys2Proof.Machine
end

