-- ==== Sys2Proof/Machine/Settings.lean ====
section
/-! DEFINITION. The settings: checks of a curve, the clamps of each setting, the load, and the end of a save (R93, R126 to
R128, R134, R197 to R200). -/

namespace Sys2Proof.Machine

/-! ### Curves (R127) -/

/-- A point clamped to its ranges (R127). -/
def CurvePoint.clamped (p : CurvePoint) : CurvePoint := { lux := min 120000 p.lux, nits := min 1400 p.nits }

/-- How many values of a point are clamped (R127). -/
def CurvePoint.clampCount (p : CurvePoint) : Nat :=
  flagBit 0 (decide (120000 < p.lux)) + flagBit 0 (decide (1400 < p.nits))

/-- How many values of a table are clamped (R127). -/
def clampedValues (points : List CurvePoint) : Nat := (points.map CurvePoint.clampCount).sum

/-- The index of the first point, from index `i` on, whose lux is not above the one before it (R127). -/
def orderFault : Nat → List CurvePoint → Option Nat
  | i, p :: q :: ps => if p.lux < q.lux then orderFault (i + 1) (q :: ps) else some (i + 1)
  | _, _ => none

/-- What the check of a curve comes to (R127). -/
inductive CurveCheck where
  | badCount
  | badOrder (index : Nat)
  | good (points : List CurvePoint) (clamped : Nat)
deriving DecidableEq, Repr

/-- The check of a curve of `count` points (R127). -/
def checkCurve (count : Nat) (points : List CurvePoint) : CurveCheck :=
  if count < 2 ∨ 12 < count then .badCount
  else
    match orderFault 0 (points.map CurvePoint.clamped) with
    | some i => .badOrder i
    | none => .good (points.map CurvePoint.clamped) (clampedValues points)

/-! ### Clamps (R93, R98, R126, R134) -/

/-- The removal window clamped (R93). -/
def clampWindow (n : Nat) : Nat := clamp 5 120 n

/-- A charge limit clamped (R26). -/
def clampLimit (n : Nat) : Nat := clamp 50 100 n

/-- The manual level clamped (R126). -/
def clampManual (n : Nat) : Nat := clamp 20 1400 n

/-- The offset clamped (R126). -/
def clampOffset (z : Int) : Int := clampInt (-50) 50 z

/-- The thresholds clamped (R134; 07, THRESHOLDS). -/
def Thresholds.clamped (t : Thresholds) : Thresholds :=
  { freeFall := clamp 200 600 t.freeFall
    run := clamp 32 256 t.run
    impact := clamp 2000 8000 t.impact
    strike := clamp 4000 15000 t.strike
    settle := clamp 200 2000 t.settle }

/-! ### The load (R198) -/

/-- The signature of a good copy (R198). -/
def settingsSignature : BitVec 16 := 0xA7C1

/-- The settings that the owners work with. -/
structure Settings where
  curve : List CurvePoint
  mode : BrightMode
  offset : Int
  manual : Nat
  thresholds : Thresholds
  window : Nat
  enableA : Bool
  limitA : Nat
  enableB : Bool
  limitB : Nat
deriving DecidableEq, Repr

/-- The defaults (R198). -/
def Settings.default : Settings :=
  { curve := defaultCurve, mode := .auto, offset := 0, manual := 300
    thresholds := defaultThresholds, window := 30
    enableA := true, limitA := 100, enableB := true, limitB := 100 }

/-- The curve points that region 1 holds (13, SETTINGS STORE REGIONS). -/
def StoredSettings.curvePoints (c : StoredSettings) : List CurvePoint :=
  (List.range c.pointCount).map (fun i => c.points.getD i { lux := 0, nits := 0 })

/-- The check of a stored curve (R128, R198). -/
def StoredSettings.curveCheck (c : StoredSettings) : CurveCheck := checkCurve c.pointCount c.curvePoints

/-- The curve that a stored region 1 gives (R128). -/
def StoredSettings.curve (c : StoredSettings) : List CurvePoint :=
  match c.curveCheck with
  | .good points _ => points
  | _ => defaultCurve

/-- The thresholds that a stored region 2 holds. -/
def StoredSettings.thresholds (c : StoredSettings) : Thresholds :=
  { freeFall := c.freeFall, run := c.run, impact := c.impact, strike := c.strike, settle := c.settle }

/-- Whether a load reads region r: regions 1 to count − 1 (R198). -/
def StoredSettings.loads (c : StoredSettings) (r : Nat) : Bool := decide (r < c.regionCount)

/-- A stored charge enable: other than 0 takes on (R198). -/
def enableOf (n : Nat) : Bool := n != 0

/-- The settings that a load gives, from a copy whose signature and count are good (R198). -/
def StoredSettings.settings (c : StoredSettings) : Settings :=
  { curve := if c.loads 1 then c.curve else defaultCurve
    mode := if c.loads 1 then (brightModeOfCode c.mode).getD .auto else .auto
    offset := if c.loads 1 then clampOffset c.offset else 0
    manual := if c.loads 1 then clampManual c.manual else 300
    thresholds := if c.loads 2 then c.thresholds.clamped else defaultThresholds
    window := if c.loads 3 then clampWindow c.window else 30
    enableA := if c.loads 3 then enableOf c.enableA else true
    limitA := if c.loads 3 then clampLimit c.limitA else 100
    enableB := if c.loads 3 then enableOf c.enableB else true
    limitB := if c.loads 3 then clampLimit c.limitB else 100 }

/-- 1 when a clamp changes a value. -/
def moved {α : Type} [DecidableEq α] (before after : α) : Nat := if before = after then 0 else 1

/-- What region 1 adds to the clamped count (R198). -/
def StoredSettings.clampedBright (c : StoredSettings) : Nat :=
  (match c.curveCheck with
    | .good _ n => n
    | _ => 0) +
  moved c.offset (clampOffset c.offset) + moved c.manual (clampManual c.manual) +
  flagBit 0 (brightModeOfCode c.mode).isNone

/-- What region 2 adds to the clamped count (R198). -/
def StoredSettings.clampedDrop (c : StoredSettings) : Nat :=
  moved c.freeFall c.thresholds.clamped.freeFall + moved c.run c.thresholds.clamped.run +
    moved c.impact c.thresholds.clamped.impact + moved c.strike c.thresholds.clamped.strike +
    moved c.settle c.thresholds.clamped.settle

/-- What region 3 adds to the clamped count (R198). -/
def StoredSettings.clampedSwap (c : StoredSettings) : Nat :=
  moved c.window (clampWindow c.window) + moved c.limitA (clampLimit c.limitA) +
    moved c.limitB (clampLimit c.limitB) + flagBit 0 (decide (1 < c.enableA)) + flagBit 0 (decide (1 < c.enableB))

/-- The clamped count of a load (R198). -/
def StoredSettings.clampedCount (c : StoredSettings) : Nat :=
  (if c.loads 1 then c.clampedBright else 0) + (if c.loads 2 then c.clampedDrop else 0) +
    (if c.loads 3 then c.clampedSwap else 0)

/-- The curve-replaced flag of a load (R198). -/
def StoredSettings.curveReplaced (c : StoredSettings) : Bool :=
  c.loads 1 && (match c.curveCheck with
    | .good _ _ => false
    | _ => true)

/-- The loaded marks, bits 1 to 3 (R198; 13). -/
def StoredSettings.loadedMarks (c : StoredSettings) : Nat :=
  flagBit 1 (c.loads 1) + flagBit 2 (c.loads 2) + flagBit 3 (c.loads 3)

/-- Whether the signature and the region count are good (R198). -/
def StoredSettings.cause (c : StoredSettings) : Option Nat :=
  if c.signature ≠ settingsSignature then some 1
  else if c.regionCount < 1 ∨ 4 < c.regionCount then some 2
  else none

/-- The owners take settings (R2, R93, R128, R132, R198). -/
def State.takeSettings (s : State) (v : Settings) : State :=
  { s with
    bright := { s.bright with curve := v.curve, mode := v.mode, offset := v.offset, manual := v.manual }
    drop := { s.drop with thresholds := v.thresholds }
    swapWindow := v.window
    bayA := { s.bayA with chargeEnable := v.enableA, chargeLimit := v.limitA }
    bayB := { s.bayB with chargeEnable := v.enableB, chargeLimit := v.limitB } }

/-- The notice of a load (R198; 13). -/
def State.postLoad (s : State) (c : StoredSettings) : State :=
  match c.cause with
  | some cause => s.post .settingsDefaulted none 0 [byte cause]
  | none =>
    s.post .settingsLoaded none (flagBit 0 c.curveReplaced)
      [byte c.regionCount, byte c.loadedMarks, byte c.clampedCount]

/-- The settings that a load gives: those of the copy read, or every default (R198). -/
def StoredSettings.given (c : StoredSettings) : Settings :=
  match c.cause with
  | some _ => Settings.default
  | none => c.settings

/-- What the load in progress reads; the copy if nothing else is latched (R198; assumption log 10). -/
def SettingsStore.source (u : SettingsStore) : StoredSettings := u.load.getD u.copy

/-- The store after a load: IDLE, or SAVING while a save is in flight (R198). -/
def SettingsStore.loaded (u : SettingsStore) : SettingsStore :=
  { u with state := if u.save.isSome then .saving else .idle, load := none }

/-- The end of a load: the owners take their values, the notice is posted, news SETTINGS is set (R198). -/
def State.endLoad (s : State) : State :=
  let after := ((s.takeSettings s.settings.source.given).postLoad s.settings.source).setNews newsSettings
  { after with settings := s.settings.loaded }

/-- The start of a load: it reads the save image while a save is in flight, and the copy otherwise (R198). -/
def SettingsStore.beginLoad (u : SettingsStore) : SettingsStore :=
  { u with
    state := if u.save.isSome then .saving else .loading
    load := match u.save with
      | some v => some v.image
      | none => some u.copy }

/-! ### The save (R199, R200) -/

/-- The save image, from the working values (R199). -/
def State.saveImage (s : State) : StoredSettings :=
  { signature := settingsSignature
    regionCount := 4
    pointCount := s.bright.curve.length
    points := s.bright.curve
    mode := brightModeCode s.bright.mode
    offset := s.bright.offset
    manual := s.bright.manual
    freeFall := s.drop.thresholds.freeFall
    run := s.drop.thresholds.run
    impact := s.drop.thresholds.impact
    strike := s.drop.thresholds.strike
    settle := s.drop.thresholds.settle
    window := s.swapWindow
    enableA := flagBit 0 s.bayA.chargeEnable
    limitA := s.bayA.chargeLimit
    enableB := flagBit 0 s.bayB.chargeEnable
    limitB := s.bayB.chargeLimit }

/-- The store after it accepts a save: the copy's signature is invalid until the save has written it (R199, R200;
assumption log 11). -/
def State.beginSave (s : State) (k : Nat) : State :=
  { s with
    settings := { s.settings with
      copy := { s.settings.copy with signature := 0 }
      state := .saving
      save := some
        { image := s.saveImage, slot := k, acceptance := s.acceptanceOf k, timer := s.inMs 40
          acceptedAt := s.uptime } } }

/-- A copy with regions 1 to `n` as an image has them (R200). -/
def StoredSettings.withImage (c image : StoredSettings) (n : Nat) : StoredSettings :=
  { c with
    pointCount := if 1 ≤ n then image.pointCount else c.pointCount
    points := if 1 ≤ n then image.points else c.points
    mode := if 1 ≤ n then image.mode else c.mode
    offset := if 1 ≤ n then image.offset else c.offset
    manual := if 1 ≤ n then image.manual else c.manual
    freeFall := if 2 ≤ n then image.freeFall else c.freeFall
    run := if 2 ≤ n then image.run else c.run
    impact := if 2 ≤ n then image.impact else c.impact
    strike := if 2 ≤ n then image.strike else c.strike
    settle := if 2 ≤ n then image.settle else c.settle
    window := if 3 ≤ n then image.window else c.window
    enableA := if 3 ≤ n then image.enableA else c.enableA
    limitA := if 3 ≤ n then image.limitA else c.limitA
    enableB := if 3 ≤ n then image.enableB else c.enableB
    limitB := if 3 ≤ n then image.limitB else c.limitB }

/-- A copy whose region `r` holds these bytes (13, SETTINGS STORE REGIONS). -/
def StoredSettings.withBytes (c : StoredSettings) (r : Fin 4) (bytes : List Byte) : StoredSettings :=
  match r with
  | 0 => { c with signature := BitVec.ofNat 16 (field bytes 0 2), regionCount := field bytes 2 1 }
  | 1 =>
    { c with
      pointCount := field bytes 0 1
      mode := field bytes 1 1
      offset := signedField bytes 2 1
      manual := field bytes 4 2
      points := (List.range 12).map (fun i => { lux := field bytes (8 + 8 * i) 4, nits := field bytes (12 + 8 * i) 2 }) }
  | 2 =>
    { c with
      freeFall := field bytes 0 2
      run := field bytes 2 2
      impact := field bytes 4 2
      strike := field bytes 6 2
      settle := field bytes 8 2 }
  | 3 =>
    { c with
      window := field bytes 0 2
      enableA := field bytes 2 1
      limitA := field bytes 3 1
      enableB := field bytes 4 1
      limitB := field bytes 5 1 }

/-- The number of regions from region 1 on that a save has written when its write of region `r` fails: region 0 is the
last one written (R200). -/
def regionsBefore (r : Fin 4) : Nat := if r = 0 then 3 else r.val - 1

/-- The copy after a save that stopped at region `r`: the regions before it are the image's, that region holds what it
read back, and the signature is invalid (R200; assumption log 11). -/
def StoredSettings.stoppedAt (c image : StoredSettings) (r : Fin 4) (readBack : List Byte) : StoredSettings :=
  { (c.withImage image (regionsBefore r)).withBytes r readBack with signature := 0 }

/-- The store after the end of a save: the copy is the image, or what a save that stopped leaves (R200). -/
def SettingsStore.saved (u : SettingsStore) (v : SaveInFlight) (failed : Option (Fin 4)) (readBack : List Byte) :
    SettingsStore :=
  { u with
    copy := match failed with
      | none => v.image
      | some r => u.copy.stoppedAt v.image r readBack
    state := .idle
    save := none }

/-- What a region whose read-back differs reads back is free (R200; assumption log 12): the bytes of the longest region. -/
def State.readBack (s : State) : List Byte := leBytes 104 s.freeValue

/-- The end of a save: its answer, and news SETTINGS. A save that stopped draws the contents of the region that failed, and
its answer carries the region alone (R200; assumption log 12, 44). -/
def State.endSave (s : State) (v : SaveInFlight) (failed : Option (Fin 4)) : State :=
  let s := { s with
    settings := s.settings.saved v failed s.readBack
    free := if failed.isSome then s.free + 1 else s.free }
  (match failed with
    | none => s.answerAccepted v.slot v.acceptance .done .none ([4, 0, 0, 0] ++ leBytes 4 v.acceptedAt)
    | some r => s.answerAccepted v.slot v.acceptance .aborted .storeFault [byte r.val]).setNews newsSettings

/-- SAVE_TIMER_EXPIRY (R200). -/
def execSaveTimerExpiry (failed : Option (Fin 4)) (s : State) : Host.Outcome State Fault Refusal :=
  match s.settings.save with
  | some v => finish s ((s.reach v.timer).endSave v failed)
  | none => finish s s

end Sys2Proof.Machine
end

