-- ==== Sys2Proof/Machine/Resets.lean ====
section
/-! DEFINITION. The resets: power-on reset and start-up, the care reset, and the HOST_PRESENT line (R2, R44, R92, R95,
R168, R185 to R189, R198, R201). -/

namespace Sys2Proof.Machine

/-! ### Power-on reset and start-up (R168, R201) -/

/-- A bay context at power-on reset, by its pins: the latch CLOSED or CLOSING, the release-wait mark (R2). -/
def bayPowerOn (p : BayPins) : BayContext :=
  { BayContext.powerOn with
    latch := if p.latch = .closed then .closed else .closing
    latchTimer := if p.latch = .closed then none else some (ms 400)
    releaseWait := p.button }

/-- The block at power-on reset, before its pins have had their effect. What no reset changes is kept: the nonvolatile
copy (R197); and the model's own queue and free-value counter (assumption log 31). -/
def State.powerOn (s : State) (pins : PinLevels) : State :=
  { State.reset with
    pins := pins
    bayA := bayPowerOn pins.a
    bayB := bayPowerOn pins.b
    settings := { State.reset.settings with copy := s.settings.copy, load := some s.settings.copy }
    free := s.free
    pending := s.pending }

/-- A CONTACT pin that is high at power-on reset counts as a contact arrival (R2). -/
def State.contactAtPowerOn (s : State) (b : Bay) : State :=
  if (s.bayPins b).contact then s.contactArrives b else s

/-- A DC_PRESENT pin that is high at power-on reset starts the debounce timer (R46). -/
def State.dcAtPowerOn (s : State) : State :=
  { s with power := if s.pins.dcPresent then s.power.debounced true s.clock else s.power }

/-- POWER_ON_RESET (R2, R46, R168, R201; assumption log 31). -/
def execPowerOnReset (pins : PinLevels) (s : State) : Host.Outcome State Fault Refusal :=
  finish (s.powerOn pins) ((((s.powerOn pins).contactAtPowerOn .a).contactAtPowerOn .b).dcAtPowerOn)

/-- Start-up ends: the load ends, and the start-up mark is cleared (R198, R201). -/
def State.endStartup (s : State) : State :=
  { s.endLoad with port := { s.endLoad.port with startUp := false } }

/-- STARTUP_END (R201; assumption log 10). -/
def execStartupEnd (s : State) : Host.Outcome State Fault Refusal :=
  if s.port.startUp then finishWith { all := true } s s.endStartup else finish s s

/-! ### HOST_PRESENT (R185, R196) -/

/-- The HOST_PRESENT line at a level. -/
def State.setHostPresent (s : State) (level : Bool) : State := { s with pins := { s.pins with hostPresent := level } }

/-- What is left of the port's answer when HOST_PRESENT falls: a READ in progress is discarded (R185). -/
def PortAnswer.lineFallen : PortAnswer → Option PortAnswer
  | .reading _ _ _ _ => none
  | a => some a

/-- The frame in progress is discarded (R185). -/
def State.endFrame (s : State) : State :=
  { s with port := { s.port with answer := s.port.answer.bind PortAnswer.lineFallen } }

/-- HOST_PRESENT_CHANGE (R185, R195, R196). -/
def execHostPresentChange (level : Bool) (s : State) : Host.Outcome State Fault Refusal :=
  finish s (if level then s.setHostPresent true else (s.setHostPresent false).endFrame)

/-! ### The care reset (R186, R187) -/

/-- The notice unit at the start of a care reset (R189). -/
def NoticeUnit.careReset (u : NoticeUnit) : NoticeUnit :=
  { u with bottom := 0, top := 0, entries := [], deferred := [], news := 0, mask := 0 }

/-- The pack link at the start of a care reset: waiting QUERY jobs go, and the outcome of one in flight is discarded
(R44). -/
def PackLink.careReset (l : PackLink) : PackLink :=
  { l with
    waiting := l.waiting.filter (fun j => !j.work.isQuery)
    inFlight := match l.inFlight with
      | some t => some { t with discard := t.discard || t.job.work.isQuery }
      | none => none }

/-- The drop monitor at the start of a care reset: the slot of a PORT_RESET in STARTING is forgotten (R132). -/
def DropMonitor.careReset (d : DropMonitor) : DropMonitor :=
  { d with
    starting := match d.starting with
      | some g => some { g with slot := none }
      | none => none }

/-- A slot requester becomes NONE (R92). -/
def SwapContext.careReset (w : SwapContext) : SwapContext :=
  { w with
    requester := match w.requester with
      | .slot _ _ => .nobody
      | r => r }

/-- The care port at the start of a care reset: the intake list is emptied, and every slot is EMPTY with every field zero;
the acceptance numbers are kept (R186). -/
def CarePort.startReset (p : CarePort) : CarePort :=
  { p with
    careReset := true
    intake := []
    memory := Memory.write p.memory (slotBase 0) (List.replicate 1536 0) }

/-- The start of a care reset, in one operation (R186). -/
def State.startCareReset (s : State) : State :=
  let begun : State :=
    { s with
      port := s.port.startReset
      notices := s.notices.careReset
      link := s.link.careReset
      drop := s.drop.careReset
      settings := s.settings.beginLoad }
  (begun.putSwap (match s.swap with
    | some w => some w.careReset
    | none => none)).removeSoftware

/-- The bytes of an entry place of the notice list: its entry, or zeros (R189). -/
def NoticeUnit.placeBytes (u : NoticeUnit) (i : Nat) : List Byte :=
  match u.entries[(i + 32 - u.top) % 32]? with
  | some n => noticeBytes n
  | none => List.replicate 32 0

/-- All 32 entry places (R189). -/
def NoticeUnit.area (u : NoticeUnit) : List Byte := ((List.range 32).map u.placeBytes).flatten

/-- The notice unit writes its list at the end of a care reset (R189). -/
def State.writeNotices (s : State) : State := s.blockStore (noticePlace 0) s.notices.area

/-- The end of a care reset: the reload ends, IDENT shows ready, and the notice list is written (R187, R189, R198). -/
def State.endCareReset (s : State) : State :=
  State.writeNotices { s.endLoad with port := { s.endLoad.port with careReset := false } }

/-- CARE_RESET_END (R187; assumption log 10). -/
def execCareResetEnd (s : State) : Host.Outcome State Fault Refusal :=
  if s.port.careReset then finishWith { all := true, places := true } s s.endCareReset else finish s s

end Sys2Proof.Machine
end

