-- ==== Sys2Proof/Machine/Port.lean ====
section
/-! DEFINITION. The port operations, and the commands that are a host operation on one watched word (R169 to R179, R185,
R202). -/

namespace Sys2Proof.Machine

/-! ### Reading (R171; 09, HEADER WORDS) -/

/-- Whether IDENT shows ready (R169). -/
def CarePort.ready (p : CarePort) : Bool := !p.startUp && !p.careReset

/-- IDENT: part code, revision 1, ready flag, resetting flag (R169; 13). -/
def CarePort.ident (p : CarePort) : Nat := 0x0F72 + 2 ^ 16 + flagBit 24 p.ready + flagBit 25 p.careReset

/-- The 32 bytes of the header words as they read (09, HEADER WORDS). -/
def State.headerBytes (s : State) : List Byte :=
  leBytes 4 s.port.ident ++ leBytes 4 0 ++ leBytes 4 s.notices.news.toNat ++ leBytes 4 s.notices.mask.toNat ++
    leBytes 4 0 ++ leBytes 4 s.notices.top ++ leBytes 4 s.notices.bottom ++ leBytes 4 s.uptime

/-- A byte of care memory as it reads outside a care reset. -/
def State.peek (s : State) (addr : Nat) : Byte :=
  if addr < 32 then s.headerBytes.getD addr 0 else Memory.read s.port.memory addr

/-- The word at an address as it reads. -/
def State.peekWord (s : State) (addr : Nat) : Nat :=
  ofLe [s.peek addr, s.peek (addr + 1), s.peek (addr + 2), s.peek (addr + 3)]

/-- A byte as a READ returns it: zero beyond 0x1FFF, and zero except IDENT during a care reset (R171). -/
def State.readByte (s : State) (addr : Nat) : Byte :=
  if s.port.careReset ∧ 4 ≤ addr then 0 else if addr < 0x2000 then s.peek addr else 0

/-- The bytes that a READ returns for the addresses that it serves at one moment (R171). -/
def State.readBytes (s : State) (addr : Nat) : Nat → List Byte
  | 0 => []
  | k + 1 => s.readByte addr :: s.readBytes (addr + 1) k

/-! ### Answers and misuse (R176, R185) -/

/-- The care port answers in the frame. -/
def State.reply (s : State) (a : PortAnswer) : State := { s with port := { s.port with answer := some a } }

/-- The port answers nothing: it ignores the frame, or the frame is discarded (R170, R185). -/
def State.silent (s : State) : State := { s with port := { s.port with answer := none } }

/-- A MISUSE event (R176). -/
def State.misuse (s : State) : State := s.setNews newsMisuse

/-- Whether writes and word operations are held (R168, R186). -/
def CarePort.held (p : CarePort) : Bool := p.startUp || p.careReset

/-- Whether a length is 1 to 256 bytes (R171, R172). -/
def lengthOk (n : Nat) : Bool := decide (1 ≤ n ∧ n ≤ 256)

/-! ### READ, word by word (R170, R171) -/

/-- How many of the bytes left lie in the word of the next one (R170). -/
def wordBytes (addr left : Nat) : Nat := min left (4 - addr % 4)

/-- A READ that has served these bytes: in progress while bytes are left, and answered when none is (R170). -/
def readAnswer (status : PortStatus) (served : List Byte) (addr left : Nat) : PortAnswer :=
  if left = 0 then .data status served else .reading status served addr left

/-- The answer after the next word of a READ in progress is served, from care memory as it now stands (R170, R171). The
words of a READ that was taken with HELD and outlasts the care reset are served from care memory after its end, by R171's
"when its word is served", where file 13 has a READ that is not OK return zeros (DESIGN CHOICE, assumption log 22). -/
def PortAnswer.nextWord (s : State) : PortAnswer → PortAnswer
  | .reading st served addr left =>
    readAnswer st (served ++ s.readBytes addr (wordBytes addr left)) (addr + wordBytes addr left)
      (left - wordBytes addr left)
  | a => a

/-- The answer after up to `n` more words of a READ in progress, all served from one state (R170). -/
def PortAnswer.nextWords (s : State) : Nat → PortAnswer → PortAnswer
  | 0, a => a
  | n + 1, a => PortAnswer.nextWords s n (a.nextWord s)

/-- A READ in progress, if there is one, is served a free number of words: the host's clock sets the pace (R170;
assumption logs 6 and 12). -/
def State.serve (s : State) : State :=
  match s.port.answer with
  | some (.reading status served addr left) =>
    s.draw.reply (PortAnswer.nextWords s s.freeValue (.reading status served addr left))
  | _ => s

/-- A READ is taken: its first word is served at once, and the others as the frame goes on (R170; assumption log 6). -/
def State.beginRead (s : State) (status : PortStatus) (addr length : Nat) : State :=
  (s.reply ((readAnswer status [] addr length).nextWord s)).serve

/-- READ while HOST_PRESENT is high (R170, R171; assumption log 22). -/
def State.portRead (s : State) (addr length : Nat) : State :=
  if s.port.careReset then s.beginRead .held addr length
  else if !lengthOk length then s.misuse.reply (.data .refused (List.replicate length 0))
  else if 0x2000 ≤ addr then s.reply (.data .outOfRange (List.replicate length 0))
  else s.beginRead .ok addr length

/-- READ (R170, R171, R185). -/
def execRead (addr : Addr) (length : BitVec 16) (s : State) : Host.Outcome State Fault Refusal :=
  finish s (if s.pins.hostPresent then s.portRead addr.toNat length.toNat else s.silent)

/-! ### Words touched by a write (R172) -/

/-- The part of a write that falls in one word: the word's address, and which of its bytes are given. -/
structure WordPart where
  addr : Nat
  given : List (Option Byte)
deriving DecidableEq, Repr

/-- The byte that a write of `data` at `base` gives to an address, if it gives one. -/
def givenByte (base : Nat) (data : List Byte) (addr : Nat) : Option Byte :=
  if addr < base then none else data[addr - base]?

/-- The part of a write that falls in the word at an address. -/
def wordPart (base : Nat) (data : List Byte) (addr : Nat) : WordPart :=
  { addr := addr
    given := [givenByte base data addr, givenByte base data (addr + 1), givenByte base data (addr + 2),
      givenByte base data (addr + 3)] }

/-- The number of words that bytes from `base` on touch. -/
def wordCount (base length : Nat) : Nat := (base % 4 + length + 3) / 4

/-- The parts of a write, in address order (R172). -/
def writeParts (base : Nat) (data : List Byte) : List WordPart :=
  (List.range (wordCount base data.length)).map (fun i => wordPart base data (base / 4 * 4 + 4 * i))

/-- The bytes of a word after a part: the given ones, and the others as they stand. -/
def mergeBytes (s : State) : Nat → List (Option Byte) → List Byte
  | _, [] => []
  | addr, some b :: gs => b :: mergeBytes s (addr + 1) gs
  | addr, none :: gs => s.peek addr :: mergeBytes s (addr + 1) gs

/-- The value that a word would hold after a part (R172). -/
def State.merged (s : State) (p : WordPart) : Nat := ofLe (mergeBytes s p.addr p.given)

/-- The value of a part whose bytes not given count as zero: what is written to NEWS and NEWS_FORCE (assumption log 18). -/
def WordPart.plain (p : WordPart) : Nat := ofLe (p.given.map (fun g => g.getD 0))

/-! ### Checks (R169, R172, R175, R178) -/

/-- The check of a NOTICE_TOP value (R175). -/
def NoticeUnit.topOk (u : NoticeUnit) (value : Nat) : Bool :=
  decide (value < 32) && decide ((value + 32 - u.top) % 32 ≤ u.listed)

/-- The check of a change of an owner word: unchanged, EMPTY to READY, or ANSWERED to EMPTY (R178). -/
def ownerChangeOk (before after : Nat) : Bool :=
  decide (after = before) || (decide (before = ownerEmpty) && decide (after = ownerReady)) ||
    (decide (before = ownerAnswered) && decide (after = ownerEmpty))

/-- The check of a header word (09, HEADER WORDS; R169). -/
def State.headerOk (s : State) (addr value : Nat) : Bool :=
  if addr = 0x04 then decide (value ≤ 1)
  else if addr = 0x08 ∨ addr = 0x0C ∨ addr = 0x10 then true
  else if addr = 0x14 then s.notices.topOk value
  else false

/-- The slot that an address lies in. -/
def slotOf (addr : Nat) : Nat := (addr - 0x0200) / 64

/-- The offset of an address in its slot. -/
def slotOffset (addr : Nat) : Nat := (addr - 0x0200) % 64

/-- The check of a word of a slot (R172). -/
def State.slotOk (s : State) (addr value : Nat) : Bool :=
  if slotOffset addr = 0 then ownerChangeOk (s.slotOwner (slotOf addr)) value
  else if slotOffset addr < 32 then decide (s.slotOwner (slotOf addr) = ownerEmpty)
  else true

/-- The check of a word that a write touches, with the value it would hold (R172). -/
def State.wordOk (s : State) (addr value : Nat) : Bool :=
  if addr < 0x20 then s.headerOk addr value
  else if addr < 0x0200 then false
  else if addr < 0x0800 then s.slotOk addr value
  else if addr < 0x1000 then false
  else true

/-- The check of a whole write, against the state that stands before it (R172). -/
def State.partsOk (s : State) (parts : List WordPart) : Bool :=
  parts.all (fun p => s.wordOk p.addr (s.merged p))

/-! ### Performing a write (R169, R172, R178) -/

/-- Store the given bytes of a part. -/
def State.storeGiven (s : State) (addr : Nat) : List (Option Byte) → State
  | [] => s
  | some b :: gs => (s.store addr [b]).storeGiven (addr + 1) gs
  | none :: gs => s.storeGiven (addr + 1) gs

/-- A performed write of a header word; a care reset is started last, by the caller (R169, R192 to R194). -/
def State.performHeader (s : State) (p : WordPart) (value : Nat) : State :=
  if p.addr = 0x08 then s.clearNews (byte p.plain)
  else if p.addr = 0x0C then { s with notices := { s.notices with mask := BitVec.ofNat 32 value } }
  else if p.addr = 0x10 then s.setNews (byte p.plain)
  else if p.addr = 0x14 then s.readIndex value
  else s

/-- Whether a part stores its bytes as they are: slot kind, flags, tag and parameters, and bulk buffers. Owner words move
by `moveOwner`, and the bytes of an answer area are dropped (R172). -/
def WordPart.storesBytes (p : WordPart) : Bool :=
  decide (0x1000 ≤ p.addr) ||
    (decide (0x0200 ≤ p.addr ∧ p.addr < 0x0800) && decide (slotOffset p.addr ≠ 0 ∧ slotOffset p.addr < 32))

/-- A part of a performed write, but for owner words and the start of a care reset. -/
def State.performPart (s : State) (p : WordPart) : State :=
  if p.addr < 0x20 then s.performHeader p (s.merged p)
  else if p.storesBytes then s.storeGiven p.addr p.given
  else s

/-- The arrival of a slot: READY, its answer area zero, and at the end of the intake list (R178, R179). -/
def State.arrive (s : State) (k : Nat) : State :=
  let s := (s.store (slotBase k + 32) (List.replicate 32 0)).setOwner k ownerReady
  { s with port := { s.port with intake := s.port.intake ++ [k] } }

/-- A host's legal change of an owner word to a value: an arrival, an emptying, or no change (R178). -/
def State.moveOwner (s : State) (k value : Nat) : State :=
  if s.slotOwner k = ownerEmpty ∧ value = ownerReady then s.arrive k
  else if s.slotOwner k = ownerAnswered ∧ value = ownerEmpty then s.setOwner k ownerEmpty
  else s

/-- Whether a part is of an owner word. -/
def WordPart.isOwner (p : WordPart) : Bool :=
  decide (0x0200 ≤ p.addr ∧ p.addr < 0x0800) && decide (slotOffset p.addr = 0)

/-- The move of a part's owner word, if it is one (R172). -/
def State.performOwner (s : State) (p : WordPart) : State :=
  if p.isOwner then s.moveOwner (slotOf p.addr) (s.merged p) else s

/-- Whether a part leaves RESET set in CARE_CONTROL (R169). -/
def State.setsReset (s : State) (p : WordPart) : Bool := decide (p.addr = 0x04) && decide (s.merged p = 1)

/-- A write whose checks have passed is performed: fields before owner words, owner words in address order, and a care
reset last (R172; assumption log 19). -/
def State.perform (s : State) (parts : List WordPart) : State :=
  let moved := parts.foldl State.performOwner (parts.foldl State.performPart s)
  if parts.any s.setsReset then moved.startCareReset else moved

/-! ### WRITE (R172) -/

/-- The data of a write that falls within care memory; bytes beyond 0x1FFF are dropped (R172). -/
def withinMemory (addr : Nat) (data : List Byte) : List Byte := data.take (0x2000 - addr)

/-- WRITE while HOST_PRESENT is high (R168, R172, R176). A bad length is refused before the address is looked at
(assumption log 47). -/
def State.portWrite (s : State) (addr : Nat) (data : List Byte) : State :=
  if s.port.held then s.reply (.status .held)
  else if !lengthOk data.length then s.misuse.reply (.status .refused)
  else if 0x2000 ≤ addr then s.reply (.status .outOfRange)
  else if s.partsOk (writeParts addr (withinMemory addr data)) then
    (s.perform (writeParts addr (withinMemory addr data))).reply (.status .ok)
  else s.misuse.reply (.status .refused)

/-- A frame is taken while HOST_PRESENT is high, and ignored otherwise (R185). -/
def State.frame (s after : State) : State := if s.pins.hostPresent then after else s.silent

/-- WRITE (R172, R185). -/
def execWrite (addr : Addr) (data : List Byte) (s : State) : Host.Outcome State Fault Refusal :=
  finish s (s.frame (s.portWrite addr.toNat data))

/-! ### Word operations (R173, R174) -/

/-- A word operation that is held; the original that it returns is free (R168; assumption log 12). -/
def State.heldWord (s : State) : State :=
  s.draw.reply (.word (BitVec.ofNat 32 s.freeValue) false .held)

/-- A word operation that is refused, with MISUSE (R173, R174, R176). -/
def State.refuseWord (s : State) (original : Nat) : State :=
  s.misuse.reply (.word (BitVec.ofNat 32 original) false .refused)

/-- A word operation that is performed (R173, R174). -/
def State.okWord (s : State) (original : Nat) (flag : Bool) : State :=
  s.reply (.word (BitVec.ofNat 32 original) flag .ok)

/-- A whole word as a part. -/
def wholeWord (addr value : Nat) : WordPart := { addr := addr, given := (leBytes 4 value).map some }

/-- The new value of a word is checked as a one-word WRITE and performed if it passes (R173, R174). -/
def State.storeWord (s : State) (addr value original : Nat) (flag : Bool) : State :=
  if s.wordOk addr value then (s.perform [wholeWord addr value]).okWord original flag else s.refuseWord original

/-- What every word operation checks first: held, range, alignment; then its own work (R168, R173, R174). -/
def State.wordOperation (s : State) (addr : Nat) (work : State) : State :=
  if s.port.held then s.heldWord
  else if 0x2000 ≤ addr then s.reply (.word 0 false .outOfRange)
  else if addr % 4 ≠ 0 then s.refuseWord 0
  else work

/-- The work of EXCHANGE_IF_EQUAL (R173). -/
def State.exchange (s : State) (addr compare new : Nat) : State :=
  if addr = 0x08 ∨ addr = 0x10 then s.refuseWord (s.peekWord addr)
  else if s.peekWord addr ≠ compare then s.okWord (s.peekWord addr) false
  else s.storeWord addr new (s.peekWord addr) true

/-- EXCHANGE_IF_EQUAL while HOST_PRESENT is high (R173). -/
def State.portExchange (s : State) (addr compare new : Nat) : State :=
  s.wordOperation addr (s.exchange addr compare new)

/-- EXCHANGE_IF_EQUAL (R173, R185). -/
def execExchangeIfEqual (addr : Addr) (compare new : Word) (s : State) : Host.Outcome State Fault Refusal :=
  finish s (s.frame (s.portExchange addr.toNat compare.toNat new.toNat))

/-- SET_BITS on NEWS clears the bits of its mask (R174, R193). -/
def State.setBitsNews (s : State) (mask : Nat) : State :=
  (s.clearNews (byte mask)).okWord s.notices.news.toNat ((s.notices.news &&& byte mask) != 0)

/-- SET_BITS on NEWS_FORCE sets the bits of its mask (R174, R193). -/
def State.setBitsForce (s : State) (mask : Nat) : State :=
  (s.setNews (byte mask)).okWord 0 ((byte mask &&& ~~~s.notices.news) != 0)

/-- The work of SET_BITS (R174). -/
def State.setWordBits (s : State) (addr mask : Nat) : State :=
  if addr = 0x08 then s.setBitsNews mask
  else if addr = 0x10 then s.setBitsForce mask
  else if addr = 0x14 then s.refuseWord (s.peekWord addr)
  else s.storeWord addr (s.peekWord addr ||| mask) (s.peekWord addr) ((s.peekWord addr ||| mask) != s.peekWord addr)

/-- SET_BITS while HOST_PRESENT is high (R174). -/
def State.portSetBits (s : State) (addr mask : Nat) : State := s.wordOperation addr (s.setWordBits addr mask)

/-- SET_BITS (R174, R185). -/
def execSetBits (addr : Addr) (mask : Word) (s : State) : Host.Outcome State Fault Refusal :=
  finish s (s.frame (s.portSetBits addr.toNat mask.toNat))

/-- A word with a mask's bits cleared (R174). -/
def withoutBits (value mask : Nat) : Nat := value - (value &&& mask)

/-- The work of CLEAR_BITS (R174). -/
def State.clearWordBits (s : State) (addr mask : Nat) : State :=
  if addr = 0x08 ∨ addr = 0x10 ∨ addr = 0x14 then s.refuseWord (s.peekWord addr)
  else
    s.storeWord addr (withoutBits (s.peekWord addr) mask) (s.peekWord addr)
      (withoutBits (s.peekWord addr) mask != s.peekWord addr)

/-- CLEAR_BITS while HOST_PRESENT is high (R174). -/
def State.portClearBits (s : State) (addr mask : Nat) : State := s.wordOperation addr (s.clearWordBits addr mask)

/-- CLEAR_BITS (R174, R185). -/
def execClearBits (addr : Addr) (mask : Word) (s : State) : Host.Outcome State Fault Refusal :=
  finish s (s.frame (s.portClearBits addr.toNat mask.toNat))

/-! ### Other frames (R170, R202) -/

/-- Whether an operation byte is one of the five codes (13, PORT FRAMES). -/
def operationKnown (op : Byte) : Bool := decide (1 ≤ op.toNat ∧ op.toNat ≤ 5)

/-- A frame with an unknown operation byte, while HOST_PRESENT is high (R202). -/
def State.portUnknown (s : State) : State :=
  if s.port.held then s.reply (.status .held) else s.misuse.reply (.status .refused)

/-- UNKNOWN_OPERATION (R202; assumption log 33). -/
def execUnknownOperation (op : Byte) (s : State) : Host.Outcome State Fault Refusal :=
  finish s (if operationKnown op then s else s.frame s.portUnknown)

/-- FRAME_DISCARDED: nothing is performed, no status is returned, no news is set (R170). -/
def execFrameDiscarded (s : State) : Host.Outcome State Fault Refusal := finish s s.silent

/-! ### Watched words (R169, R170, R175, R178) -/

/-- The host operation that gives one word a value: a WRITE of its four bytes, or a word operation (R172 to R174). -/
def State.hostWord (s : State) (addr value : Nat) (via : Via) : State :=
  s.frame (match via with
    | .write => s.portWrite addr (leBytes 4 value)
    | .exchange compare => s.portExchange addr compare.toNat value
    | .setBits => s.portSetBits addr value
    | .clearBits => s.portClearBits addr value)

/-- CARE_RESET: RESET is set in CARE_CONTROL (R169, R186). -/
def execCareReset (via : Via) (s : State) : Host.Outcome State Fault Refusal := finish s (s.hostWord 0x04 1 via)

/-- NEWS_WRITE (R169, R193). -/
def execNewsWrite (via : Via) (value : Word) (s : State) : Host.Outcome State Fault Refusal :=
  finish s (s.hostWord 0x08 value.toNat via)

/-- NEWS_FORCE_WRITE (R169, R193). -/
def execNewsForceWrite (via : Via) (value : Word) (s : State) : Host.Outcome State Fault Refusal :=
  finish s (s.hostWord 0x10 value.toNat via)

/-- NEWS_MASK_WRITE (R169, R194). -/
def execNewsMaskWrite (via : Via) (value : Word) (s : State) : Host.Outcome State Fault Refusal :=
  finish s (s.hostWord 0x0C value.toNat via)

/-- NOTICE_TOP_WRITE (R175, R192). -/
def execNoticeTopWrite (via : Via) (value : Word) (s : State) : Host.Outcome State Fault Refusal :=
  finish s (s.hostWord 0x14 value.toNat via)

/-- ARRIVAL: an owner word moves from EMPTY to READY (R178, R179). -/
def execArrival (slot : Nat) (via : Via) (s : State) : Host.Outcome State Fault Refusal :=
  finish s (if slot < 24 then s.hostWord (slotBase slot) ownerReady via else s)

/-- The value by which a host operation moves an owner word from ANSWERED to EMPTY: EMPTY, or for CLEAR_BITS the mask of
ANSWERED's bits (R174, R178). -/
def emptyingValue (via : Via) : Nat :=
  match via with
  | .clearBits => ownerAnswered
  | _ => ownerEmpty

/-- OWNER_WORD_EMPTY: an owner word moves from ANSWERED to EMPTY (R178). -/
def execOwnerWordEmpty (slot : Nat) (via : Via) (s : State) : Host.Outcome State Fault Refusal :=
  finish s (if slot < 24 then s.hostWord (slotBase slot) (emptyingValue via) via else s)

end Sys2Proof.Machine
end

