-- ==== Sys2Proof/Machine/Releases.lean ====
section
/-! DEFINITION. The commands of the swap controller's timers, and the requests BAY_RELEASE and its CANCEL (R76, R80, R82,
R88). -/

namespace Sys2Proof.Machine

/-- The switching timer runs out: UNLATCHING, and the latch is driven open (R80). -/
def State.unlatch (s : State) (w : SwapContext) : State :=
  (s.putSwap (some { w with phase := .unlatching, switchingTimer := none })).driveOpen w.bay

/-- SWITCHING_TIMER_EXPIRY (R80). -/
def execSwitchingTimerExpiry (s : State) : Host.Outcome State Fault Refusal :=
  match s.swap with
  | some w =>
    match w.switchingTimer with
    | some t => finish s ((s.reach t).unlatch w)
    | none => finish s s
  | none => finish s s

/-- WINDOW_TIMER_EXPIRY: RELATCHING with abort reason EXPIRED (R82). -/
def execWindowTimerExpiry (s : State) : Host.Outcome State Fault Refusal :=
  match s.swap with
  | some w =>
    match w.windowTimer with
    | some t => finish s ((s.reach t).enterRelatching w (some .expired))
    | none => finish s s
  | none => finish s s

/-- A BAY_RELEASE slot for bay X: refused at once, or granted and ACCEPTED (R76, R79). -/
def State.slotRelease (s : State) (k : Nat) (x : Bay) : State :=
  match s.releaseResult x with
  | .refused r need best => s.answer k .refused r (s.releaseData x 0 0 0 need best)
  | .granted c need best => (s.accept k).grant x (.slot k (s.acceptanceOf k + 1)) c need best

/-- A cancel in SWITCHING: the switch closes, bay X enters ONLINE, and the release ends CANCELLED (R88). -/
def State.cancelSwitching (s : State) (w : SwapContext) : State :=
  (s.enterOnline w.bay (s.bay w.bay)).endRelease w (s.serial w.bay) .cancelled

/-- A CANCEL that names the release of the swap context: the state after its effect, and whether it was taken (R88). -/
def State.cancelRelease (s : State) (w : SwapContext) : Option State :=
  match w.phase with
  | .switching => some (s.cancelSwitching w)
  | .unlatching => some (s.enterRelatching w none)
  | .waiting => some (s.enterRelatching w none)
  | .relatching => none

end Sys2Proof.Machine
end

