-- ==== Sys2Proof/Machine/Requests.lean ====
section
/-! DEFINITION. The commands of the request dispatcher: one for each kind of request, and one for unknown kinds (R180 to
R184). -/

namespace Sys2Proof.Machine

/-! ### Taking an entry (R180) -/

/-- The kind codes of the table of request kinds (R180). -/
def kindKnown (kind : Nat) : Bool := decide (1 ≤ kind ∧ kind ≤ 18)

/-- Whether a flags byte has a bit other than NO_NEWS set (R180). -/
def flagsBad (flags : Nat) : Bool := decide (2 ≤ flags)

/-- The state with the oldest entry out of the intake list (R180 step 1). -/
def State.popIntake (s : State) : State := { s with port := { s.port with intake := s.port.intake.tail } }

/-- Whether the dispatcher takes entries: not during start-up or a care reset (R180, R186). -/
def State.dispatching (s : State) : Bool := !s.port.startUp && !s.port.careReset

/-- The oldest entry of the intake list, while the dispatcher takes entries (R180). -/
def State.oldest (s : State) : Option Nat := if s.dispatching then s.port.intake.head? else none

/-- The answer data of a BAD_KIND or flags refusal (R180; 13). -/
def State.kindData (s : State) (k : Nat) : List Byte := [byte (s.slotKind k), byte (s.slotFlags k)]

/-- A request is refused (R180). -/
def State.refuse (s : State) (k : Nat) (r : Reason) (data : List Byte) : State := s.answer k .refused r data

/-- A request is answered DONE (R180). -/
def State.done (s : State) (k : Nat) (data : List Byte) : State := s.answer k .done .none data

/-- The dispatcher takes the oldest entry if its kind is this one: bad flags are refused, and the kind's own work
follows (R180; assumption log 4). -/
def State.take (s : State) (kind : Nat) (work : State → Nat → State) : State :=
  match s.oldest with
  | some k =>
    if s.slotKind k = kind then
      (if flagsBad (s.slotFlags k) then s.popIntake.refuse k .badParam (s.kindData k) else work s.popIntake k)
    else s
  | none => s

/-- The dispatcher takes the oldest entry if its kind is unknown, or its flags are bad (R180 steps 3 and 4). -/
def State.takeUnknown (s : State) : State :=
  match s.oldest with
  | some k =>
    if !kindKnown (s.slotKind k) then s.popIntake.refuse k .badKind (s.kindData k)
    else if flagsBad (s.slotFlags k) then s.popIntake.refuse k .badParam (s.kindData k)
    else s
  | none => s

/-- UNKNOWN_KIND (R180). -/
def execUnknownKind (s : State) : Host.Outcome State Fault Refusal := finish s s.takeUnknown

/-! ### BAY_RELEASE and CANCEL -/

/-- The work of a BAY_RELEASE (R76). A refusal for a value that names no bay answers that value, and zero for the states
of the bay that it does not name (assumption log 41). -/
def workBayRelease (s : State) (k : Nat) : State :=
  match bayOfCode (s.param k 0 1) with
  | some x => s.slotRelease k x
  | none => s.refuse k .badParam [byte (s.param k 0 1)]

/-- BAY_RELEASE (R76, R79). -/
def execBayRelease (s : State) : Host.Outcome State Fault Refusal := finish s (s.take 1 workBayRelease)

/-- The answer data of a CANCEL: target slot, target kind, target owner word (R183; 13). -/
def cancelData (target kind owner : Nat) : List Byte := [byte target, byte kind, byte owner]

/-- Whether a READY target of a kind is cancellable (R180, R183). -/
def cancellableReady (kind : Nat) : Bool := decide (kind = 1) || decide (kind = 3)

/-- A READY target is answered CANCELLED and leaves the intake list (R184). -/
def State.cancelReady (s : State) (t : Nat) : State :=
  State.answer { s with port := { s.port with intake := s.port.intake.filter (fun k => k != t) } } t .cancelled .none []

/-- The swap context whose requester is this slot with its present acceptance (R88). -/
def State.releaseBySlot (s : State) (t : Nat) : Option SwapContext :=
  match s.swap with
  | some w => if w.requester = .slot t (s.acceptanceOf t) then some w else none
  | none => none

/-- A CANCEL of an ACCEPTED BAY_RELEASE, with its effect if it is taken (R88). -/
def State.cancelBySwap (s : State) (t : Nat) : Option State :=
  match s.releaseBySlot t with
  | some w => s.cancelRelease w
  | none => none

/-- Whether a job is the QUERY job of a slot. -/
def Job.queryOf (j : Job) (t : Nat) : Bool :=
  match j.work with
  | .query slot _ _ _ => decide (slot = t)
  | _ => false

/-- The answer data of a QUERY cancelled while WAITING; its outcome byte, which no transaction gives, is free (R40;
assumption log 12). -/
def State.cancelledQueryData (s : State) (j : Job) : List Byte := queryData j.bay j.work.region 0 s.freeValue

/-- A CANCEL of an ACCEPTED PACK_QUERY: taken while its job is WAITING (R40). -/
def State.cancelByLink (s : State) (t : Nat) : Option State :=
  match s.link.waiting.find? (fun j => j.queryOf t) with
  | some j =>
    some (State.answer
      { s.draw with link := { s.link with waiting := s.link.waiting.filter (fun j => !j.queryOf t) } } t .cancelled .none
      (s.cancelledQueryData j))
  | none => none

/-- A CANCEL that its target's owner decides (R88, R40, R183 rows 6 and 7). -/
def State.cancelOwned (s : State) (k : Nat) (data : List Byte) (taken : Option State) : State :=
  match taken with
  | some s => s.done k data
  | none => s.refuse k .tooLate data

/-- A CANCEL of a READY target (R183 rows 4 and 5). -/
def State.cancelWaiting (s : State) (k t : Nat) (data : List Byte) : State :=
  if cancellableReady (s.slotKind t) then (s.cancelReady t).done k data else s.refuse k .badState data

/-- A CANCEL of an ACCEPTED target, by its kind (R183 rows 6 to 8). -/
def State.cancelAccepted (s : State) (k t : Nat) (data : List Byte) : State :=
  if s.slotKind t = 1 then s.cancelOwned k data (s.cancelBySwap t)
  else if s.slotKind t = 3 then s.cancelOwned k data (s.cancelByLink t)
  else s.refuse k .badState data

/-- A CANCEL of a target slot other than its own (R183 rows 2 to 8). -/
def State.cancelTarget (s : State) (k t tag : Nat) : State :=
  let data := cancelData t (s.slotKind t) (s.slotOwner t)
  if s.slotOwner t = ownerEmpty ∨ s.slotOwner t = ownerAnswered then s.refuse k .tooLate data
  else if s.slotTag t ≠ tag then s.refuse k .tooLate data
  else if s.slotOwner t = ownerReady then s.cancelWaiting k t data
  else s.cancelAccepted k t data

/-- The work of a CANCEL (R183). A target outside 0 to 23 has no kind and no owner word: those two bytes are free
(assumption log 12). -/
def workCancel (s : State) (k : Nat) : State :=
  if 24 ≤ s.param k 0 1 then
    s.draw.refuse k .badParam (cancelData (s.param k 0 1) s.freeValue (s.freeValue / 256))
  else if s.param k 0 1 = k then s.refuse k .badParam (cancelData k (s.slotKind k) (s.slotOwner k))
  else s.cancelTarget k (s.param k 0 1) (s.param k 2 2)

/-- CANCEL (R183, R184, R40, R88). -/
def execCancel (s : State) : Host.Outcome State Fault Refusal := finish s (s.take 2 workCancel)

/-! ### PACK_QUERY, BAY_RECHECK and SET_CHARGE -/

/-- Whether a bay's state may be queried (R38 check 3). -/
def BayState.queried : BayState → Bool
  | .online => true
  | .releasing => true
  | .barred => true
  | _ => false

/-- Whether a bay's pack has a region, by its descriptor (R38 check 4). -/
def BayContext.hasRegion (c : BayContext) (region : Nat) : Bool :=
  decide (region = 0) || (match c.descriptor with
    | some d => decide (region < d.regionCount)
    | none => false)

/-- Checks 2 to 6 of R38. -/
def State.queryRefusal (s : State) (b : Bay) (region : Nat) : Option Reason :=
  if (s.bay b).state = .vacant then some .noPack
  else if !(s.bay b).state.queried then some .badState
  else if !(s.bay b).hasRegion region then some .badParam
  else if 4 ≤ s.link.queries then some .full
  else if s.link.state = .resetting then some .busy
  else none

/-- A PACK_QUERY of valid parameters: refused, or ACCEPTED with a QUERY job (R38). -/
def State.packQuery (s : State) (k : Nat) (b : Bay) (region buffer : Nat) : State :=
  match s.queryRefusal b region with
  | some r => s.refuse k r []
  | none => (s.accept k).join b (.query k (s.acceptanceOf k + 1) region buffer)

/-- The work of a PACK_QUERY, check 1 first (R38). -/
def workPackQuery (s : State) (k : Nat) : State :=
  match bayOfCode (s.param k 0 1) with
  | some b =>
    if 3 < s.param k 1 1 ∨ 15 < s.param k 2 1 then s.refuse k .badParam []
    else s.packQuery k b (s.param k 1 1) (s.param k 2 1)
  | none => s.refuse k .badParam []

/-- PACK_QUERY (R38). -/
def execPackQuery (s : State) : Host.Outcome State Fault Refusal := finish s (s.take 3 workPackQuery)

/-- A BAY_RECHECK of a bay (R25). -/
def State.recheck (s : State) (k : Nat) (b : Bay) : State :=
  if (s.bay b).state = .barred then
    ((s.enterReading b).withdrawStamp b).done k [byte (bayStateCode .reading)]
  else s.refuse k .badState [byte (bayStateCode (s.bay b).state)]

/-- The work of a BAY_RECHECK (R25). -/
def workBayRecheck (s : State) (k : Nat) : State :=
  match bayOfCode (s.param k 0 1) with
  | some b => s.recheck k b
  | none => s.refuse k .badParam []

/-- BAY_RECHECK (R25). -/
def execBayRecheck (s : State) : Host.Outcome State Fault Refusal := finish s (s.take 4 workBayRecheck)

/-- The bay context with its charge settings (R26). -/
def BayContext.charging (c : BayContext) (enable : Bool) (limit : Nat) : BayContext :=
  { c with chargeEnable := enable, chargeLimit := limit }

/-- A SET_CHARGE of a bay (R26). -/
def State.setCharge (s : State) (k : Nat) (b : Bay) (enable limit : Nat) : State :=
  (s.setBay b ((s.bay b).charging (enableOf enable) (clampLimit limit))).done k [byte enable, byte (clampLimit limit)]

/-- The work of a SET_CHARGE (R26). -/
def workSetCharge (s : State) (k : Nat) : State :=
  match bayOfCode (s.param k 0 1) with
  | some b =>
    if 1 < s.param k 1 1 then s.refuse k .badParam [] else s.setCharge k b (s.param k 1 1) (s.param k 2 1)
  | none => s.refuse k .badParam []

/-- SET_CHARGE (R26). -/
def execSetCharge (s : State) : Host.Outcome State Fault Refusal := finish s (s.take 5 workSetCharge)

/-! ### SET_CURVE, SET_BRIGHTNESS, SET_DISPLAY -/

/-- The points of the curve table in a bulk buffer (13, BULK BUFFER CURVE TABLE). -/
def bufferPoints (m : List Host.Cell) (base count : Nat) : List CurvePoint :=
  (List.range count).map (fun i =>
    { lux := Memory.readNat m (base + 4 + 8 * i) 4, nits := Memory.readNat m (base + 8 + 8 * i) 2 })

/-- The point count of the curve table in a bulk buffer (13). -/
def State.bufferCount (s : State) (buffer : Nat) : Nat := (Memory.read s.port.memory (bulkBase buffer)).toNat

/-- The check of the curve table in a bulk buffer (R127). -/
def State.bufferCheck (s : State) (buffer : Nat) : CurveCheck :=
  checkCurve (s.bufferCount buffer) (bufferPoints s.port.memory (bulkBase buffer) (s.bufferCount buffer))

/-- A SET_CURVE of a buffer (R127). -/
def State.setCurve (s : State) (k buffer : Nat) : State :=
  match s.bufferCheck buffer with
  | .badCount => s.refuse k .badParam [byte (s.bufferCount buffer)]
  | .badOrder i => s.refuse k .badParam [byte (s.bufferCount buffer), byte i]
  | .good points n =>
    State.done { s with bright := { s.bright with curve := points } } k [byte (s.bufferCount buffer), byte n]

/-- The work of a SET_CURVE (R127). -/
def workSetCurve (s : State) (k : Nat) : State :=
  if 15 < s.param k 0 1 then s.refuse k .badParam [] else s.setCurve k (s.param k 0 1)

/-- Whether the dispatcher's take of a kind answers it DONE; then the owner's section is rewritten (R130, R156). -/
def State.doneBy (before after : State) (kind : Nat) : Bool :=
  match before.oldest with
  | some k => decide (before.slotKind k = kind) && decide (after.slotByte k 32 = statusCode .done)
  | none => false

/-- The end of a brightness request: the section is rewritten when the request is taken (R130). -/
def finishBright (kind : Nat) (before after : State) : Host.Outcome State Fault Refusal :=
  finishWith { bright := before.doneBy after kind } before after

/-- SET_CURVE (R127). -/
def execSetCurve (s : State) : Host.Outcome State Fault Refusal := finishBright 6 s (s.take 6 workSetCurve)

/-- A SET_BRIGHTNESS of a valid mode (R126). -/
def State.setBrightness (s : State) (k : Nat) (mode : BrightMode) (offset : Int) (manual : Nat) : State :=
  State.done
    { s with bright := { s.bright with mode := mode, offset := clampOffset offset, manual := clampManual manual } } k
    ([byte (brightModeCode mode)] ++ leSigned 1 (clampOffset offset) ++ leBytes 2 (clampManual manual))

/-- The offset parameter: one signed byte (13). -/
def State.offsetParam (s : State) (k : Nat) : Int :=
  ofLeSigned (Memory.readBytes s.port.memory (slotBase k + 9) 1)

/-- The work of a SET_BRIGHTNESS (R126). -/
def workSetBrightness (s : State) (k : Nat) : State :=
  match brightModeOfCode (s.param k 0 1) with
  | some m => s.setBrightness k m (s.offsetParam k) (s.param k 2 2)
  | none => s.refuse k .badParam []

/-- SET_BRIGHTNESS (R126). -/
def execSetBrightness (s : State) : Host.Outcome State Fault Refusal := finishBright 7 s (s.take 7 workSetBrightness)

/-- The display setting takes a value, and the display is worked out (R122). -/
def State.displayTo (s : State) (on : Bool) : State :=
  { s with bright := { s.bright with displaySetting := on }.workDisplay s.power.platform }

/-- The answer data of a SET_DISPLAY: setting, display, platform state (R122; 13). -/
def State.displayData (s : State) : List Byte :=
  [byte (flagBit 0 s.bright.displaySetting), byte (flagBit 0 s.bright.display), byte (platformCode s.power.platform)]

/-- The work of a SET_DISPLAY (R122). -/
def workSetDisplay (s : State) (k : Nat) : State :=
  if 1 < s.param k 0 1 then s.refuse k .badParam []
  else (s.displayTo (s.param k 0 1 = 1)).done k (s.displayTo (s.param k 0 1 = 1)).displayData

/-- SET_DISPLAY (R122): the section is rewritten if the setting or the display has changed. -/
def execSetDisplay (s : State) : Host.Outcome State Fault Refusal := finish s (s.take 8 workSetDisplay)

/-! ### SET_DROP and SET_SWAP -/

/-- The thresholds that a SET_DROP names (R134; 13). -/
def State.dropParams (s : State) (k : Nat) : Thresholds :=
  { freeFall := s.param k 0 2
    run := s.param k 2 2
    impact := s.param k 4 2
    strike := s.param k 6 2
    settle := s.param k 8 2 }

/-- The answer data of a SET_DROP: the stored values and the strike threshold in use (R134; 13). -/
def Thresholds.data (t : Thresholds) : List Byte :=
  leBytes 2 t.freeFall ++ leBytes 2 t.run ++ leBytes 2 t.impact ++ leBytes 2 t.strike ++ leBytes 2 t.settle ++
    leBytes 2 t.strikeInUse

/-- The work of a SET_DROP (R134). -/
def workSetDrop (s : State) (k : Nat) : State :=
  State.done { s with drop := { s.drop with thresholds := (s.dropParams k).clamped } } k (s.dropParams k).clamped.data

/-- SET_DROP (R134). -/
def execSetDrop (s : State) : Host.Outcome State Fault Refusal :=
  finishWith { drop := s.doneBy (s.take 9 workSetDrop) 9 } s (s.take 9 workSetDrop)

/-- The work of a SET_SWAP (R93). -/
def workSetSwap (s : State) (k : Nat) : State :=
  State.done { s with swapWindow := clampWindow (s.param k 0 2) } k (leBytes 2 (clampWindow (s.param k 0 2)))

/-- SET_SWAP (R93). -/
def execSetSwap (s : State) : Host.Outcome State Fault Refusal := finish s (s.take 10 workSetSwap)

/-! ### HOLD and UNHOLD -/

/-- The kind that a HOLD or UNHOLD names, if SOFTWARE may hold it (R98, R99). -/
def softwareKind (code : Nat) : Option HoldKind :=
  match holdKindOfCode code with
  | some .storage => none
  | k => k

/-- The first bytes of a HOLD or UNHOLD answer: kind, new flag, count of the kind, entries in the set (R98, R99; 13). -/
def State.holdData (s : State) (kind : HoldKind) (flag : Bool) : List Byte :=
  [byte (holdKindCode kind), byte (flagBit 0 flag), byte (s.holds.count kind), byte s.holds.entries.length]

/-- A HOLD of an allowed kind for a stored duration (R98). -/
def State.holdRequest (s : State) (k : Nat) (kind : HoldKind) (duration : Nat) : State :=
  (s.holdSoftware kind duration).done k
    ((s.holdSoftware kind duration).holdData kind (!s.holds.holds kind .software) ++ leBytes 2 duration ++ [0, 0] ++
      leBytes 4 (deadline (s.holdExpiryAt duration)))

/-- The work of a HOLD (R98). -/
def workHold (s : State) (k : Nat) : State :=
  match softwareKind (s.param k 0 1) with
  | some kind => s.holdRequest k kind (holdDuration (s.param k 2 2))
  | none => s.refuse k .badParam []

/-- HOLD (R98). -/
def execHold (s : State) : Host.Outcome State Fault Refusal := finish s (s.take 11 workHold)

/-- An UNHOLD of an allowed kind (R99). -/
def State.unholdRequest (s : State) (k : Nat) (kind : HoldKind) : State :=
  (s.holdRemove kind .software).done k
    ((s.holdRemove kind .software).holdData kind (s.holds.holds kind .software))

/-- The work of an UNHOLD (R99). -/
def workUnhold (s : State) (k : Nat) : State :=
  match softwareKind (s.param k 0 1) with
  | some kind => s.unholdRequest k kind
  | none => s.refuse k .badParam []

/-- UNHOLD (R99). -/
def execUnhold (s : State) : Host.Outcome State Fault Refusal := finish s (s.take 12 workUnhold)

/-! ### PIN_IMPACT, UNPIN_IMPACT, CLEAR_IMPACTS -/

/-- The counts of the store and one more byte (R164 to R166; 13). -/
def ImpactStore.countData (u : ImpactStore) (extra : Nat) : List Byte :=
  [byte u.recordCount, byte u.pinnedCount, byte u.openCount, byte extra]

/-- The answer data of a pin or unpin: counts, changed flag, pinned mark, sequence (R164, R165; 13). -/
def ImpactStore.pinData (u : ImpactStore) (changed pinned : Bool) (sequence : Nat) : List Byte :=
  u.countData (flagBit 0 changed) ++ [byte (flagBit 0 pinned), 0, 0, 0] ++ leBytes 4 sequence

/-- The store with the pinned mark of a record replaced (R164, R165). -/
def ImpactStore.setPin (u : ImpactStore) (sequence : Nat) (pinned : Bool) : ImpactStore :=
  u.update sequence (fun r => { r with pinned := pinned })

/-- The work of a PIN_IMPACT (R164). -/
def workPinImpact (s : State) (k : Nat) : State :=
  match s.impact.record (s.param k 0 4) with
  | none => s.refuse k .notFound (s.impact.pinData false false (s.param k 0 4))
  | some r =>
    if r.pinned then s.done k (s.impact.pinData false true (s.param k 0 4))
    else if 12 ≤ s.impact.pinnedCount then s.refuse k .pinLimit (s.impact.pinData false false (s.param k 0 4))
    else
      State.done (s.putImpact (s.impact.setPin (s.param k 0 4) true)) k
        ((s.impact.setPin (s.param k 0 4) true).pinData true true (s.param k 0 4))

/-- PIN_IMPACT (R164). -/
def execPinImpact (s : State) : Host.Outcome State Fault Refusal := finish s (s.take 13 workPinImpact)

/-- The work of an UNPIN_IMPACT (R165). -/
def workUnpinImpact (s : State) (k : Nat) : State :=
  match s.impact.record (s.param k 0 4) with
  | none => s.refuse k .notFound (s.impact.pinData false false (s.param k 0 4))
  | some r =>
    State.done (s.putImpact (s.impact.setPin (s.param k 0 4) false)) k
      ((s.impact.setPin (s.param k 0 4) false).pinData r.pinned false (s.param k 0 4))

/-- UNPIN_IMPACT (R165). -/
def execUnpinImpact (s : State) : Host.Outcome State Fault Refusal := finish s (s.take 14 workUnpinImpact)

/-- The places with every record removed that is neither pinned nor open (R166). -/
def clearedPlaces (places : List (Option ImpactRecord)) : List (Option ImpactRecord) :=
  places.map (fun p =>
    match p with
    | some r => if r.pinned || r.isOpen then some r else none
    | none => none)

/-- The store after a CLEAR_IMPACTS (R166). -/
def ImpactStore.cleared (u : ImpactStore) : ImpactStore := { u with places := clearedPlaces u.places }

/-- The work of a CLEAR_IMPACTS (R166). -/
def workClearImpacts (s : State) (k : Nat) : State :=
  State.done (s.putImpact s.impact.cleared) k
    (s.impact.cleared.countData (s.impact.recordCount - s.impact.cleared.recordCount))

/-- CLEAR_IMPACTS (R166). -/
def execClearImpacts (s : State) : Host.Outcome State Fault Refusal := finish s (s.take 15 workClearImpacts)

/-! ### SET_PLATFORM and SAVE_SETTINGS -/

/-- The platform state changes: the display is worked out again and news POWER is set; the lines follow at the end of
the command (R62, R103, R121, R196). -/
def State.platformTo (s : State) (p : Platform) : State :=
  if p = s.power.platform then s
  else
    State.setNews { s with power := { s.power with platform := p }, bright := s.bright.workDisplay p } newsPower

/-- The work of a SET_PLATFORM (R62). -/
def workSetPlatform (s : State) (k : Nat) : State :=
  match platformOfCode (s.param k 0 1) with
  | some p => (s.platformTo p).done k [byte (platformCode s.power.platform), byte (platformCode p)]
  | none => s.refuse k .badParam []

/-- SET_PLATFORM (R62). -/
def execSetPlatform (s : State) : Host.Outcome State Fault Refusal := finish s (s.take 16 workSetPlatform)

/-- The work of a SAVE_SETTINGS (R199). -/
def workSaveSettings (s : State) (k : Nat) : State :=
  if s.settings.state = .idle then (s.accept k).beginSave k else s.refuse k .busy []

/-- SAVE_SETTINGS (R199). -/
def execSaveSettings (s : State) : Host.Outcome State Fault Refusal := finish s (s.take 17 workSaveSettings)

/-! ### PORT_RESET (R19, R42, R43, R154, R181) -/

/-- A bay after a pack-link PORT_RESET (R19). -/
def State.bayAfterReset (s : State) (b : Bay) : State :=
  match (s.bay b).state, (s.bay b).jolt with
  | .reading, _ => s.putBay b ((s.bay b).seated s.clock)
  | .jolted, some j =>
    if j.phase = .serialCheck then
      s.putBay b { s.bay b with jolt := some { j with phase := .contactHold, holdTimer := some (s.inMs 20) } }
    else s
  | _, _ => s

/-- The link becomes RESETTING for 5 ms, and holds the slot that it will answer (R42). -/
def State.startLinkReset (s : State) (k : Nat) : State :=
  { s with
    link := { s.link with
      state := .resetting
      resetTimer := some (s.inMs 5)
      resetSlot := some (k, s.acceptanceOf k) } }

/-- A pack-link PORT_RESET: refused BUSY in RESETTING; otherwise the wire and its jobs are reset (R42, R43). -/
def State.linkReset (s : State) (k : Nat) : State :=
  if s.link.state = .resetting then s.refuse k .busy []
  else
    (((((s.accept k).removeJobs (fun _ => true) .abandoned .portReset).startLinkReset k).bayAfterReset .a).bayAfterReset
      .b)

/-- The work of a PORT_RESET for the pack link; a port that is neither is refused (R181). -/
def workLinkReset (s : State) (k : Nat) : State :=
  if s.param k 0 1 = 0 then s.linkReset k else s.refuse k .badParam []

/-- Whether the oldest entry is a PORT_RESET that the dispatcher hands to this port (R181). -/
def State.resetFor (s : State) (port : Nat) : Bool :=
  match s.oldest with
  | some k => decide (s.slotKind k = 18) && !flagsBad (s.slotFlags k) && decide (s.param k 0 1 = port)
  | none => false

/-- PACK_LINK_PORT_RESET: the oldest entry is a PORT_RESET, not for the sensor port (R181; assumption log 30). -/
def execPackLinkPortReset (s : State) : Host.Outcome State Fault Refusal :=
  finish s (if s.resetFor 1 then s else s.take 18 workLinkReset)

/-- The monitor enters STARTING for 10 ms, carrying a slot (R154). -/
def State.startSensor (s : State) (k : Nat) : State :=
  s.setDrop { s.drop with
    state := .starting
    n := none
    r := none
    missing := 0
    starting := some { timer := s.inMs 10, slot := some (k, s.acceptanceOf k) }
    sampleDue := none }

/-- A sensor PORT_RESET: refused BUSY in STARTING; otherwise a fall is ended as for a lost sensor, and the monitor starts
again (R154). -/
def State.sensorReset (s : State) (k : Nat) : State :=
  if s.drop.state = .starting then s.refuse k .busy []
  else ((s.accept k).loseFall).startSensor k

/-- The work of a PORT_RESET for the sensor port; a port that is neither is refused (R181). -/
def workSensorReset (s : State) (k : Nat) : State :=
  if s.param k 0 1 = 1 then s.sensorReset k else s.refuse k .badParam []

/-- SENSOR_PORT_RESET: the oldest entry is a PORT_RESET, not for the pack link (R181; assumption log 30). -/
def execSensorPortReset (s : State) : Host.Outcome State Fault Refusal :=
  finishDrop s (if s.resetFor 0 then s else s.take 18 workSensorReset)

end Sys2Proof.Machine
end

