-- ==== Sys2Proof/Machine/Dispatch.lean ====
section
/-! DEFINITION. The effect of each command: one arm for each row of the table. -/

namespace Sys2Proof.Machine

/-- A command's effect on everything but the queue. -/
def exec (i : Instr) (s : State) : Host.Outcome State Fault Refusal :=
  match i with
  | .powerOnReset pins => Sys2Proof.Machine.execPowerOnReset pins s
  | .startupEnd => Sys2Proof.Machine.execStartupEnd s
  | .hostPresentChange level => Sys2Proof.Machine.execHostPresentChange level s
  | .read addr length => Sys2Proof.Machine.execRead addr length s
  | .write addr data => Sys2Proof.Machine.execWrite addr data s
  | .exchangeIfEqual addr compare new => Sys2Proof.Machine.execExchangeIfEqual addr compare new s
  | .setBits addr mask => Sys2Proof.Machine.execSetBits addr mask s
  | .clearBits addr mask => Sys2Proof.Machine.execClearBits addr mask s
  | .unknownOperation op => Sys2Proof.Machine.execUnknownOperation op s
  | .frameDiscarded => Sys2Proof.Machine.execFrameDiscarded s
  | .careReset via => Sys2Proof.Machine.execCareReset via s
  | .careResetEnd => Sys2Proof.Machine.execCareResetEnd s
  | .newsWrite via value => Sys2Proof.Machine.execNewsWrite via value s
  | .newsForceWrite via value => Sys2Proof.Machine.execNewsForceWrite via value s
  | .newsMaskWrite via value => Sys2Proof.Machine.execNewsMaskWrite via value s
  | .noticeTopWrite via value => Sys2Proof.Machine.execNoticeTopWrite via value s
  | .arrival slot via => Sys2Proof.Machine.execArrival slot via s
  | .ownerWordEmpty slot via => Sys2Proof.Machine.execOwnerWordEmpty slot via s
  | .unknownKind => Sys2Proof.Machine.execUnknownKind s
  | .bayRelease => Sys2Proof.Machine.execBayRelease s
  | .cancel => Sys2Proof.Machine.execCancel s
  | .packQuery => Sys2Proof.Machine.execPackQuery s
  | .bayRecheck => Sys2Proof.Machine.execBayRecheck s
  | .setCharge => Sys2Proof.Machine.execSetCharge s
  | .setCurve => Sys2Proof.Machine.execSetCurve s
  | .setBrightness => Sys2Proof.Machine.execSetBrightness s
  | .setDisplay => Sys2Proof.Machine.execSetDisplay s
  | .setDrop => Sys2Proof.Machine.execSetDrop s
  | .setSwap => Sys2Proof.Machine.execSetSwap s
  | .hold => Sys2Proof.Machine.execHold s
  | .unhold => Sys2Proof.Machine.execUnhold s
  | .pinImpact => Sys2Proof.Machine.execPinImpact s
  | .unpinImpact => Sys2Proof.Machine.execUnpinImpact s
  | .clearImpacts => Sys2Proof.Machine.execClearImpacts s
  | .setPlatform => Sys2Proof.Machine.execSetPlatform s
  | .saveSettings => Sys2Proof.Machine.execSaveSettings s
  | .packLinkPortReset => Sys2Proof.Machine.execPackLinkPortReset s
  | .sensorPortReset => Sys2Proof.Machine.execSensorPortReset s
  | .contactArrival bay => Sys2Proof.Machine.execContactArrival bay s
  | .contactLoss bay => Sys2Proof.Machine.execContactLoss bay s
  | .seatingTimerExpiry bay => Sys2Proof.Machine.execSeatingTimerExpiry bay s
  | .contactHoldExpiry bay => Sys2Proof.Machine.execContactHoldExpiry bay s
  | .joltTimerExpiry bay => Sys2Proof.Machine.execJoltTimerExpiry bay s
  | .gaugePoll bay => Sys2Proof.Machine.execGaugePoll bay s
  | .buttonChange bay pressed => Sys2Proof.Machine.execButtonChange bay pressed s
  | .pressTimerExpiry bay => Sys2Proof.Machine.execPressTimerExpiry bay s
  | .latchSensorChange bay reading => Sys2Proof.Machine.execLatchSensorChange bay reading s
  | .openConfirmExpiry bay => Sys2Proof.Machine.execOpenConfirmExpiry bay s
  | .closeConfirmExpiry bay => Sys2Proof.Machine.execCloseConfirmExpiry bay s
  | .retryTimerExpiry bay => Sys2Proof.Machine.execRetryTimerExpiry bay s
  | .switchingTimerExpiry => Sys2Proof.Machine.execSwitchingTimerExpiry s
  | .windowTimerExpiry => Sys2Proof.Machine.execWindowTimerExpiry s
  | .holdExpiry kind => Sys2Proof.Machine.execHoldExpiry kind s
  | .dcPresentChange level => Sys2Proof.Machine.execDcPresentChange level s
  | .dcDebounceExpiry id => Sys2Proof.Machine.execDcDebounceExpiry id s
  | .railSample milliwatts => Sys2Proof.Machine.execRailSample milliwatts s
  | .budgetStep => Sys2Proof.Machine.execBudgetStep s
  | .brightnessStep front top panel => Sys2Proof.Machine.execBrightnessStep front top panel s
  | .accelSample reading => Sys2Proof.Machine.execAccelSample reading s
  | .missingSample => Sys2Proof.Machine.execMissingSample s
  | .sensorLoss => Sys2Proof.Machine.execSensorLoss s
  | .impactWindowEnd reading => Sys2Proof.Machine.execImpactWindowEnd reading s
  | .settleTimerExpiry => Sys2Proof.Machine.execSettleTimerExpiry s
  | .settlingCapExpiry => Sys2Proof.Machine.execSettlingCapExpiry s
  | .guardTailExpiry => Sys2Proof.Machine.execGuardTailExpiry s
  | .startingTimerExpiry => Sys2Proof.Machine.execStartingTimerExpiry s
  | .requestFrameEnd => Sys2Proof.Machine.execRequestFrameEnd s
  | .answerFrame bytes => Sys2Proof.Machine.execAnswerFrame bytes s
  | .answerFrameGapEnd => Sys2Proof.Machine.execAnswerFrameGapEnd s
  | .answerWindowExpiry => Sys2Proof.Machine.execAnswerWindowExpiry s
  | .resetTimerExpiry => Sys2Proof.Machine.execResetTimerExpiry s
  | .saveTimerExpiry failed => Sys2Proof.Machine.execSaveTimerExpiry failed s
  | .answerFrameBegin => Sys2Proof.Machine.execAnswerFrameBegin s

end Sys2Proof.Machine
end

