-- ==== Sys2Proof/Safety.lean ====
section
/-! DEFINITION. The terms in which claims about the block are stated: frames, the invariants of a step, notices that have
been posted, and slots that have been answered. -/

namespace Sys2Proof.Machine

/-! ### Frames -/

/-- The parts of the block that a frame names. Care memory has its own frame, `BytesKept`; what the sub-blocks drive out of
the part (ATTENTION, STORAGE_GUARD, HIBERNATE_REQUEST, the port's answer) are parts of their own. -/
inductive Part where
  | clock
  | pins
  | startUp
  | careReset
  | acceptance
  | intake
  | answer
  | noticeList
  | news
  | mask
  | attention
  | bay (b : Bay)
  | swap
  | swapWindow
  | link
  | power
  | hibernate
  | holds
  | storageGuard
  | bright
  | drop
  | impact
  | settings
  | free
  | pending
deriving DecidableEq, Repr

/-- The indices, entries, counter and deferred set of the notice unit, apart from its news bits and its line. -/
def NoticeUnit.list (u : NoticeUnit) : Nat × Nat × List Notice × Nat × List Notice :=
  (u.bottom, u.top, u.entries, u.counter, u.deferred)

/-- The power unit apart from its line. -/
def PowerUnit.inner (p : PowerUnit) : PowerUnit := { p with hibernate := false }

/-- A part is the same in two states. -/
def Same (s t : State) : Part → Prop
  | .clock => t.clock = s.clock
  | .pins => t.pins = s.pins
  | .startUp => t.port.startUp = s.port.startUp
  | .careReset => t.port.careReset = s.port.careReset
  | .acceptance => t.port.acceptance = s.port.acceptance
  | .intake => t.port.intake = s.port.intake
  | .answer => t.port.answer = s.port.answer
  | .noticeList => t.notices.list = s.notices.list
  | .news => t.notices.news = s.notices.news
  | .mask => t.notices.mask = s.notices.mask
  | .attention => t.notices.attention = s.notices.attention
  | .bay b => t.bay b = s.bay b
  | .swap => t.swap = s.swap
  | .swapWindow => t.swapWindow = s.swapWindow
  | .link => t.link = s.link
  | .power => t.power.inner = s.power.inner
  | .hibernate => t.power.hibernate = s.power.hibernate
  | .holds => t.holds.entries = s.holds.entries
  | .storageGuard => t.holds.storageGuard = s.holds.storageGuard
  | .bright => t.bright = s.bright
  | .drop => t.drop = s.drop
  | .impact => t.impact = s.impact
  | .settings => t.settings = s.settings
  | .free => t.free = s.free
  | .pending => t.pending = s.pending

/-- Every part but the listed ones is the same. -/
def Kept (but : List Part) (s t : State) : Prop := ∀ p, p ∉ but → Same s t p

/-- An area of care memory: its first address and its length. -/
abbrev Area := Nat × Nat

/-- Every byte of care memory outside the listed areas reads as before. -/
def BytesKept (but : List Area) (s t : State) : Prop :=
  ∀ a, (∀ r ∈ but, a < r.1 ∨ r.1 + r.2 ≤ a) → Memory.read t.port.memory a = Memory.read s.port.memory a

/-- The live page section of the power unit. -/
def sourcesArea : Area := (0x0040, 64)
/-- The live page section of a bay. -/
def bayArea (b : Bay) : Area := (bayBase b, 80)
/-- The live page section of the brightness unit. -/
def brightArea : Area := (0x0120, 64)
/-- The live page section of the drop monitor. -/
def dropArea : Area := (0x0160, 64)
/-- The live page section of the hold set. -/
def holdArea : Area := (0x01A0, 96)
/-- The live page. -/
def liveArea : Area := (0x0040, 448)
/-- The owner word of a slot. -/
def ownerArea (k : Nat) : Area := (slotBase k, 4)
/-- The answer area of a slot. -/
def answerArea (k : Nat) : Area := (slotBase k + 32, 32)
/-- The entry place that the next notice takes. -/
def noticeArea (s : State) : Area := (noticePlace s.notices.bottom, 32)
/-- The impact store places. -/
def impactArea : Area := (0x0C00, 1024)
/-- An impact store place. -/
def placeArea (i : Nat) : Area := (placeBase i, 64)

/-- A section or place shows a body between two equal counts (R177; 13, LIVE PAGE SECTIONS). -/
def Shows (m : List Host.Cell) (r : Area) (body : List Byte) : Prop :=
  Memory.readBytes m (r.1 + 4) (r.2 - 8) = padTo (r.2 - 8) body ∧
    Memory.readNat m r.1 4 = Memory.readNat m (r.1 + r.2 - 4) 4

/-! ### Invariants of a step -/

/-- The three level lines stand at the levels of their rules (R195, R103, R63). -/
def State.LinesHold (s : State) : Prop :=
  s.notices.attention = s.attentionLevel ∧ s.holds.storageGuard = s.storageGuardLevel ∧
    s.power.hibernate = s.hibernateLevel

/-- The sequences of a list of entries count up, modulo 65536, to the counter (R190). -/
def Sequenced (counter : Nat) (entries : List Notice) : Prop :=
  ∀ i, (h : i < entries.length) → (entries[i].sequence + (entries.length - i)) % 65536 = counter

/-- The notice unit is in order: indices 0 to 31 that span the list, sequences that count up to the counter, a notice
deferred only while the list is full, and at most one deferred notice of a kind (R188, R190, R191). -/
def NoticeUnit.Ordered (u : NoticeUnit) : Prop :=
  u.top < 32 ∧ u.bottom < 32 ∧ u.counter < 65536 ∧ u.entries.length = u.listed ∧ Sequenced u.counter u.entries ∧
    (u.deferred ≠ [] → u.listed = 31) ∧ (u.deferred.map (·.kind)).Nodup

/-- A bay's path switch is closed only in ONLINE, or in RELEASING with the path-reclosed mark set (R3). -/
def State.PathRule (s : State) (b : Bay) : Prop :=
  (s.bay b).pathClosed = true →
    (s.bay b).state = .online ∨ ((s.bay b).state = .releasing ∧ ∃ w, s.swap = some w ∧ w.bay = b ∧ w.pathReclosed = true)

/-- A bay is RELEASING exactly while the swap context is its own (R69, R79, R85). -/
def State.SwapRule (s : State) (b : Bay) : Prop :=
  (s.bay b).state = .releasing ↔ ∃ w, s.swap = some w ∧ w.bay = b

/-- A bay's seating timer stands only in SEATING, and its jolt data only in JOLTED (R1, R5, R9). -/
def State.TimerRule (s : State) (b : Bay) : Prop :=
  ((s.bay b).seatingTimer.isSome = true → (s.bay b).state = .seating) ∧
    ((s.bay b).jolt.isSome = true → (s.bay b).state = .jolted)

/-- The release in progress and the bays agree (R1, R3, R69). -/
def State.ReleaseAgrees (s : State) : Prop := ∀ b, s.PathRule b ∧ s.SwapRule b ∧ s.TimerRule b

/-- A carrying episode stands only while the supply mode is BRIDGE (R45, R60). -/
def State.EpisodeAgrees (s : State) : Prop := s.power.episode.isSome = true → s.power.mode = .bridge

/-- The link state agrees with the transaction in flight, the queue and the reset timer (R27, R33, R42). -/
def PackLink.Agrees (l : PackLink) : Prop :=
  match l.state with
  | .idle => l.inFlight = none ∧ l.waiting = [] ∧ l.resetTimer = none
  | .busy => l.inFlight.isSome = true ∧ l.resetTimer = none
  | .resetting => l.inFlight = none ∧ l.resetTimer.isSome = true

/-- Every slot in READY stands exactly once in the intake list, and the list holds no slot in any other state (R179). -/
def State.IntakeAgrees (s : State) : Prop :=
  s.port.intake.Nodup ∧ ∀ k, k ∈ s.port.intake ↔ (k < 24 ∧ s.slotOwner k = ownerReady)

/-- The sections of the power unit, the bays, the brightness unit and the hold set show their blocks, outside start-up and
a care reset (R1, R64, R130, R105, R177). -/
def State.PageShows (s : State) : Prop :=
  s.port.held = false →
    Shows s.port.memory sourcesArea (sourcesBody s.power) ∧
    Shows s.port.memory (bayArea .a) (bayBody s.bayA (s.swapOf .a)) ∧
    Shows s.port.memory (bayArea .b) (bayBody s.bayB (s.swapOf .b)) ∧
    Shows s.port.memory brightArea (brightBody s.bright) ∧
    Shows s.port.memory holdArea (holdBody s.holds)

/-- The section of the drop monitor shows its fields; those that every sample moves, and the settle deadline, as the latest
rewrite left them (R156). The fields of SETTLING, IMPACT and STARTING stand only in their states (R131), and no sample is
due in STARTING (R140). -/
def State.MonitorShows (s : State) : Prop :=
  (s.drop.settling.isSome = true → s.drop.state = .settling) ∧ (s.drop.window.isSome = true → s.drop.state = .impact) ∧
  (s.drop.starting.isSome = true → s.drop.state = .starting) ∧
  (s.drop.sampleDue.isSome = true → s.drop.state ≠ .starting) ∧
  (s.port.held = false → ∃ (missing q : Nat) (n r : Option Nat) (till : Instant),
    Shows s.port.memory dropArea (dropBody { s.drop with
      missing := missing, n := n, r := r
      settling := match s.drop.settling with
        | some g => some { g with q := q, settleTimer := till }
        | none => none }))

/-- Every slot that the block still works for is one of slots 0 to 23 (R32, R42, R69, R131, R179, R197). -/
def State.SlotsNamed (s : State) : Prop :=
  (∀ k ∈ s.port.intake, k < 24) ∧
  (∀ j ∈ s.link.jobs, ∀ k n region buffer : Nat, j.work = .query k n region buffer → k < 24) ∧
  (∀ k n : Nat, s.link.resetSlot = some (k, n) → k < 24) ∧
  (∀ v : SaveInFlight, s.settings.save = some v → v.slot < 24) ∧
  (∀ (g : Starting) (k n : Nat), s.drop.starting = some g → g.slot = some (k, n) → k < 24) ∧
  ∀ (w : SwapContext) (k n : Nat), s.swap = some w → w.requester = .slot k n → k < 24

/-- Every impact store place is steady, with an even write count, and shows its record, or zeros when it is free; what a
care reset leaves unwritten is written at its end (R158, R167). -/
def State.PlacesShow (s : State) : Prop :=
  s.notices.bottom < 32 ∧ s.SlotsNamed ∧ s.impact.places.length = 16 ∧
  ∀ i, i < 16 → Memory.readNat s.port.memory (placeBase i) 4 % 2 = 0 ∧
    (s.port.careReset = false →
      Memory.readBytes s.port.memory (placeBase i + 4) 60 = padTo 60 (placeBody (s.impact.places.getD i none)))

/-- Every entry of the notice list stands at its place, as the entry's bytes; during a care reset nothing is written, and its
end writes the list (R188, R189, R190, R192). -/
def State.ListShows (s : State) : Prop :=
  s.notices.Ordered ∧ s.SlotsNamed ∧
    (s.port.careReset = false → ∀ j, (h : j < s.notices.entries.length) →
      Memory.readBytes s.port.memory (noticePlace ((s.notices.top + j) % 32)) 32 = noticeBytes s.notices.entries[j])

/-- The limits of the impact store: at most 12 pinned and 2 open records, and sequences that differ, each given by the
counter, which goes on to 4,294,967,295 and is then exhausted (R158, R159). -/
def State.StoreLimits (s : State) : Prop :=
  s.impact.pinnedCount ≤ 12 ∧ s.impact.openCount ≤ 2 ∧ 1 ≤ s.impact.nextSequence ∧ s.impact.nextSequence ≤ 4294967296 ∧
    (s.impact.records.map (·.sequence)).Nodup ∧
    ∀ r ∈ s.impact.records, 1 ≤ r.sequence ∧ r.sequence < s.impact.nextSequence

/-- The display is ON while its setting is ON and the platform state is RUN (R121). -/
def State.DisplayAgrees (s : State) : Prop :=
  s.bright.display = (s.bright.displaySetting && (s.power.platform == .run))

/-- A bay's latch is OPENING or OPEN only while that bay is RELEASING, in UNLATCHING or WAITING, with its LATCH kind not in
force; a release whose bay's kind is in force has its end fixed; and the switching timer stands only in SWITCHING (R80,
R83, R89, R102). -/
def State.LatchAgrees (s : State) : Prop :=
  s.ReleaseAgrees ∧
  (∀ b : Bay, (s.bay b).latch = .opening ∨ (s.bay b).latch = .opened →
    (s.bay b).state = .releasing ∧ s.holds.inForce (.latch b) = false ∧
      ∃ w, s.swap = some w ∧ w.bay = b ∧ (w.phase = .unlatching ∨ w.phase = .waiting)) ∧
  ∀ w : SwapContext, s.swap = some w →
    (w.phase ≠ .relatching → s.holds.inForce (.latch w.bay) = false) ∧
      (w.switchingTimer.isSome = true → w.phase = .switching)

/-- What the manual fixes of the lists: an acceptance number for each of 24 slots, 16 record places, at most one hold
entry of a (kind, owner) pair, and no entry of STORAGE held by SOFTWARE; the frozen mark stands while BRIGHT_FREEZE is in
force; and the peak of an impact window is that of clamped samples (R94, R104, R135, R158, R168). -/
def State.Shaped (s : State) : Prop :=
  s.port.acceptance.length = 24 ∧ s.impact.places.length = 16 ∧
    s.bright.frozen = s.holds.inForce .brightFreeze ∧
    (s.holds.entries.map (fun e => (e.kind, e.owner))).Nodup ∧
    (∀ e ∈ s.holds.entries, e.kind = .storage → e.owner ≠ .software) ∧
    ∀ w : ImpactWindow, s.drop.window = some w → w.peakM ≤ 3 * 16000 ^ 2

/-- A READ is in progress only while HOST_PRESENT is high, and has bytes left to serve (R170, R185). -/
def State.ReadAgrees (s : State) : Prop :=
  ∀ (status : PortStatus) (served : List Byte) (addr left : Nat),
    s.port.answer = some (.reading status served addr left) → s.pins.hostPresent = true ∧ 0 < left

/-- No READ is in progress (R170). -/
def State.NoRead (s : State) : Prop :=
  ∀ (status : PortStatus) (served : List Byte) (addr left : Nat),
    s.port.answer ≠ some (.reading status served addr left)

/-- The manual level and the allowance lie in their ranges; with the display ON, C lies in 20 to 1400 nits and within the
limit of the allowance, and the duty is C's; with it OFF, C is 20 nits and the duty 0 (R54, R119, R120, R124, R126). -/
def State.BrightBound (s : State) : Prop :=
  20 ≤ s.bright.manual ∧ s.bright.manual ≤ 1400 ∧ 440 ≤ s.power.allowance ∧ s.power.allowance ≤ 10100 ∧
    if s.bright.display then
      20 ≤ s.bright.c ∧ s.bright.c ≤ 1400 ∧ s.bright.c ≤ (s.power.allowance - 300) / 7 ∧
        s.bright.duty = (s.bright.c * 4095 + 700) / 1400
    else s.bright.c = 20 ∧ s.bright.duty = 0

/-! ### Notices -/

/-- The entry that a posting makes, with its sequence (10, THE NOTICE ENTRY). -/
def entryOf (sequence uptime : Nat) (kind : NoticeKind) (bay : Option Bay) (flags : Nat) (payload : List Byte) : Notice :=
  { sequence := sequence, kind := kind, bay := bay, uptime := uptime, merged := 1, flags := flags, deferred := false
    payload := payload }

/-- One notice has been posted between two states: appended while the list had room, and deferred while it had none
(R190, R191). Its uptime is the later state's. -/
def Posted (s t : State) (kind : NoticeKind) (bay : Option Bay) (flags : Nat) (payload : List Byte) : Prop :=
  if s.notices.listed < 31 then
    t.notices.list =
      ((s.notices.bottom + 1) % 32, s.notices.top,
        s.notices.entries ++ [entryOf s.notices.counter t.uptime kind bay flags payload],
        (s.notices.counter + 1) % 65536, s.notices.deferred)
  else
    t.notices.list =
      (s.notices.bottom, s.notices.top, s.notices.entries, s.notices.counter,
        deferInto (entryOf 0 t.uptime kind bay flags payload) s.notices.deferred)

/-- The news bit that a posting sets: NOTICE, or DEFERRED while the list has no room (R190, R191). -/
def State.postNews (s : State) : Byte := if s.notices.listed < 31 then newsNotice else newsDeferred

/-- A notice as it is posted: its kind, its bay, its flags and its payload. -/
structure Post where
  kind : NoticeKind
  bay : Option Bay
  flags : Nat
  payload : List Byte
deriving DecidableEq, Repr

/-- The list part of a notice unit after a posting at an uptime: appended while there is room, deferred otherwise (R190,
R191). -/
def postedList (uptime : Nat) (l : Nat × Nat × List Notice × Nat × List Notice) (p : Post) :
    Nat × Nat × List Notice × Nat × List Notice :=
  match l with
  | (bottom, top, entries, counter, deferred) =>
    if (bottom + 32 - top) % 32 < 31 then
      ((bottom + 1) % 32, top, entries ++ [entryOf counter uptime p.kind p.bay p.flags p.payload],
        (counter + 1) % 65536, deferred)
    else (bottom, top, entries, counter, deferInto (entryOf 0 uptime p.kind p.bay p.flags p.payload) deferred)

/-- Notices have been posted one after the other between two states (R190, R191). -/
def PostedMany (s t : State) (posts : List Post) : Prop :=
  t.notices.list = posts.foldl (postedList t.uptime) s.notices.list

/-- The news bits that a number of postings sets: NOTICE for those that the list has room for, DEFERRED for the others
(R190, R191). -/
def State.postBits (s : State) (n : Nat) : Byte :=
  if n = 0 then 0
  else if s.notices.listed = 31 then newsDeferred
  else if s.notices.listed + n ≤ 31 then newsNotice
  else newsNotice ||| newsDeferred

/-- The entry places of the notice list. -/
def noticesArea : Area := (0x0800, 1024)

/-- The deferred notices that a read-index event appends, with their sequences and the deferred mark (R192). -/
def appendedFrom (counter : Nat) (ds : List Notice) : List Notice :=
  ds.mapIdx (fun i d => { d with deferred := true, sequence := (counter + i) % 65536 })

/-! ### Port operations -/

/-- The word of care memory at an address. -/
def State.wordAt (s : State) (a : Nat) : Word := BitVec.ofNat 32 (Memory.readNat s.port.memory a 4)

/-- A byte as a READ shows it at a state: of IDENT only during a care reset, and zero beyond care memory (R171). -/
def State.shownByte (s : State) (a : Nat) : Byte :=
  if a < (if s.port.careReset then 4 else 0x2000) then s.peek a else 0

/-- What a READ answers when, of the bytes that it still has to serve, a number of whole words has been served at a state:
the bytes before them, and then those as they are shown there. It is complete when none is left, and in progress
otherwise. The `first` word is served in any case (R170, R171). -/
def ServedOn (s : State) (first : Bool) (status : PortStatus) (served : List Byte) (addr left : Nat) (a : PortAnswer) :
    Prop :=
  ∃ m, m ≤ left ∧ (m = left ∨ (m = 0 ∧ first = false) ∨ (0 < m ∧ (addr + m) % 4 = 0)) ∧
    a = if m = left then .data status (served ++ (List.range m).map (fun i => s.shownByte (addr + i)))
      else .reading status (served ++ (List.range m).map (fun i => s.shownByte (addr + i))) (addr + m) (left - m)

/-- No write may touch this byte: IDENT, the read-only header words, the header tail, the live page, the notice list, the
impact store, and the kind, flags, tag and parameters of a slot that is not EMPTY (09, HEADER WORDS; R172). -/
def State.Forbids (s : State) (a : Nat) : Prop :=
  a < 0x0004 ∨ (0x0018 ≤ a ∧ a < 0x0200) ∨ (0x0800 ≤ a ∧ a < 0x1000) ∨
    (0x0200 ≤ a ∧ a < 0x0800 ∧ 4 ≤ (a - 0x0200) % 64 ∧ (a - 0x0200) % 64 < 32 ∧
      s.slotOwner ((a - 0x0200) / 64) ≠ ownerEmpty)

/-- No write may give this byte of CARE_CONTROL this value: it sets a bit other than RESET (R169). -/
def BadControl (a : Nat) (value : Byte) : Prop := (a = 4 ∧ 1 < value.toNat) ∨ (4 < a ∧ a < 8 ∧ value ≠ 0)

/-- The commands that are frames of the host on the port. -/
inductive IsFrame : Instr → Prop where
  | read (addr : Addr) (length : BitVec 16) : IsFrame (.read addr length)
  | write (addr : Addr) (data : List Byte) : IsFrame (.write addr data)
  | exchangeIfEqual (addr : Addr) (compare new : Word) : IsFrame (.exchangeIfEqual addr compare new)
  | setBits (addr : Addr) (mask : Word) : IsFrame (.setBits addr mask)
  | clearBits (addr : Addr) (mask : Word) : IsFrame (.clearBits addr mask)
  | unknownOperation (op : Byte) (h : op.toNat = 0 ∨ 5 < op.toNat) : IsFrame (.unknownOperation op)
  | careReset (via : Via) : IsFrame (.careReset via)
  | newsWrite (via : Via) (value : Word) : IsFrame (.newsWrite via value)
  | newsForceWrite (via : Via) (value : Word) : IsFrame (.newsForceWrite via value)
  | newsMaskWrite (via : Via) (value : Word) : IsFrame (.newsMaskWrite via value)
  | noticeTopWrite (via : Via) (value : Word) : IsFrame (.noticeTopWrite via value)
  | arrival (slot : Nat) (via : Via) (h : slot < 24) : IsFrame (.arrival slot via)
  | ownerWordEmpty (slot : Nat) (via : Via) (h : slot < 24) : IsFrame (.ownerWordEmpty slot via)

/-- The port is open to writes: HOST_PRESENT is high, and neither start-up nor a care reset is in progress (R168, R185,
R186). -/
def State.PortOpen (s : State) : Prop :=
  s.pins.hostPresent = true ∧ s.port.startUp = false ∧ s.port.careReset = false

/-- The value that an operation which takes every word gives a word (R172 to R174). -/
def viaResult (via : Via) (before value : Word) : Word :=
  match via with
  | .write => value
  | .exchange compare => if before = compare then value else before
  | .setBits => before ||| value
  | .clearBits => before &&& ~~~value

/-- What the port answers to that operation when it is performed (R172 to R174). -/
def viaAnswer (via : Via) (before value : Word) : PortAnswer :=
  match via with
  | .write => .status .ok
  | .exchange compare => .word before (decide (before = compare)) .ok
  | .setBits => .word before (decide (before ||| value ≠ before)) .ok
  | .clearBits => .word before (decide (before &&& ~~~value ≠ before)) .ok

/-- The frame by which the host applies an operation to one word. -/
def hostOp (addr : Addr) (value : Word) : Via → Instr
  | .write => .write addr (leBytes 4 value.toNat)
  | .exchange compare => .exchangeIfEqual addr compare value
  | .setBits => .setBits addr value
  | .clearBits => .clearBits addr value

/-- What the port answers to that operation when it refuses it for the word's new value (R172 to R174). -/
def viaRefusal (via : Via) (before : Word) : PortAnswer :=
  match via with
  | .write => .status .refused
  | _ => .word before false .refused

/-! ### Requests -/

/-- The dispatcher takes this slot next: a request of this kind, with no flag but NO_NEWS (R180). -/
def State.Takes (s : State) (k kind : Nat) : Prop :=
  s.port.startUp = false ∧ s.port.careReset = false ∧ s.port.intake.head? = some k ∧ k < 24 ∧ s.slotKind k = kind ∧
    s.slotFlags k < 2

/-- A slot stands ANSWERED with a status, a reason and answer data, at this state's uptime (R182; 13, SLOT). -/
def State.Answered (t : State) (k : Nat) (status : Status) (reason : Reason) (data : List Byte) : Prop :=
  t.slotOwner k = ownerAnswered ∧ t.slotByte k 32 = statusCode status ∧ t.slotByte k 33 = reasonCode reason ∧
    Memory.readBytes t.port.memory (slotBase k + 36) 24 = padTo 24 data ∧ t.slotField k 60 4 = t.uptime

/-- The news bit that an answer sets: SLOT_ANSWERED, unless the slot's NO_NEWS flag is set (R182). -/
def State.answerNews (s : State) (k : Nat) : Byte := if s.slotFlags k % 2 = 1 then 0 else newsSlotAnswered

/-- What an answer at the take changes beside the work's own effect: the intake list, SLOT_ANSWERED, and ATTENTION, which
follows the news. -/
def answerParts : List Part := [.intake, .news, .attention]

/-- The areas that an answer writes (R182). -/
def answerAreas (k : Nat) : List Area := [ownerArea k, answerArea k]

/-- The frame of an answer: the slot leaves the intake list and stands answered; the listed parts and areas beside it may
have changed (R180, R182). -/
def AnsweredBut (parts : List Part) (areas : List Area) (s t : State) (k : Nat) (status : Status) (reason : Reason)
    (data : List Byte) : Prop :=
  t.Answered k status reason data ∧ t.port.intake = s.port.intake.tail ∧ Kept (answerParts ++ parts) s t ∧
    BytesKept (answerAreas k ++ areas) s t

/-- A slot stands ACCEPTED, its acceptance number risen by 1, and has left the intake list (R178, R180). -/
def AcceptedBy (s t : State) (k : Nat) : Prop :=
  t.slotOwner k = ownerAccepted ∧ t.acceptanceOf k = s.acceptanceOf k + 1 ∧ t.port.intake = s.port.intake.tail

/-! ### News -/

/-- News bits were set, and none cleared, within a mask; the other bits stand as before. -/
def NewsWithin (bits : Byte) (s t : State) : Prop :=
  t.notices.news &&& ~~~bits = s.notices.news &&& ~~~bits ∧ s.notices.news &&& ~~~t.notices.news = 0

/-! ### Saves of the settings (R200) -/

/-- Two copies hold the same in a region (13, SETTINGS STORE REGIONS); of region 0, apart from the signature. -/
def SameRegion (r : Fin 4) (c d : StoredSettings) : Prop :=
  match r with
  | 0 => c.regionCount = d.regionCount
  | 1 =>
    c.pointCount = d.pointCount ∧ c.points = d.points ∧ c.mode = d.mode ∧ c.offset = d.offset ∧ c.manual = d.manual
  | 2 => c.freeFall = d.freeFall ∧ c.run = d.run ∧ c.impact = d.impact ∧ c.strike = d.strike ∧ c.settle = d.settle
  | 3 =>
    c.window = d.window ∧ c.enableA = d.enableA ∧ c.limitA = d.limitA ∧ c.enableB = d.enableB ∧ c.limitB = d.limitB

/-- The copy after a save that stops at region `r`: an invalid signature; the regions written before it, in the order 1,
2, 3, 0, as the image has them; the later ones as they were; and nothing said of the one that failed (R200). -/
def StoppedAt (before image after : StoredSettings) (r : Fin 4) : Prop :=
  after.signature = 0 ∧
    ∀ q : Fin 4, q ≠ r → SameRegion q after (if q ≠ 0 ∧ (r = 0 ∨ q.val < r.val) then image else before)

/-! ### Loads of the settings (R198) -/

/-- What a load from a copy gives: the curve, mode, offset and manual level of region 1, the thresholds of region 2, the
window and charge settings of region 3, each clamped, and the default of every region that is not loaded. Nothing is
loaded from a copy with a bad signature or region count (R128, R198). -/
def LoadsAs (c : StoredSettings) (t : State) : Prop :=
  let good := c.signature = 0xA7C1 ∧ 1 ≤ c.regionCount ∧ c.regionCount ≤ 4
  (if good ∧ 1 < c.regionCount then
      t.bright.curve = c.curve ∧ t.bright.mode = (brightModeOfCode c.mode).getD .auto ∧
        t.bright.offset = clampInt (-50) 50 c.offset ∧ t.bright.manual = clamp 20 1400 c.manual
    else t.bright.curve = defaultCurve ∧ t.bright.mode = .auto ∧ t.bright.offset = 0 ∧ t.bright.manual = 300) ∧
  t.drop.thresholds = (if good ∧ 2 < c.regionCount then
      { freeFall := clamp 200 600 c.freeFall, run := clamp 32 256 c.run, impact := clamp 2000 8000 c.impact
        strike := clamp 4000 15000 c.strike, settle := clamp 200 2000 c.settle }
    else { freeFall := 350, run := 64, impact := 3000, strike := 6000, settle := 500 }) ∧
  if good ∧ 3 < c.regionCount then
    t.swapWindow = clamp 5 120 c.window ∧ t.bayA.chargeEnable = (c.enableA != 0) ∧
      t.bayA.chargeLimit = clamp 50 100 c.limitA ∧ t.bayB.chargeEnable = (c.enableB != 0) ∧
      t.bayB.chargeLimit = clamp 50 100 c.limitB
  else
    t.swapWindow = 30 ∧ t.bayA.chargeEnable = true ∧ t.bayA.chargeLimit = 100 ∧ t.bayB.chargeEnable = true ∧
      t.bayB.chargeLimit = 100

/-- A load has ended between two states: the owners hold what it gives, its notice is posted, and news SETTINGS is set; of
the blocks that took settings nothing else has changed (R198). -/
def LoadEnded (s t : State) : Prop :=
  let c := s.settings.source
  LoadsAs c t ∧
  (if c.signature ≠ 0xA7C1 then Posted s t .settingsDefaulted none 0 [1]
    else if c.regionCount < 1 ∨ 4 < c.regionCount then Posted s t .settingsDefaulted none 0 [2]
    else Posted s t .settingsLoaded none (flagBit 0 c.curveReplaced)
      [byte c.regionCount, byte (flagBit 1 (decide (1 < c.regionCount)) + flagBit 2 (decide (2 < c.regionCount)) +
        flagBit 3 (decide (3 < c.regionCount))), byte c.clampedCount]) ∧
  t.notices.news = s.notices.news ||| s.postNews ||| newsSettings ∧
  t.settings.state = (if s.settings.save.isSome then .saving else .idle) ∧ t.settings.load = none ∧
  t.settings.copy = s.settings.copy ∧ t.settings.save = s.settings.save ∧
  t.bright = { s.bright with
    curve := t.bright.curve, mode := t.bright.mode, offset := t.bright.offset, manual := t.bright.manual } ∧
  t.drop = { s.drop with thresholds := t.drop.thresholds } ∧
  t.bayA = { s.bayA with chargeEnable := t.bayA.chargeEnable, chargeLimit := t.bayA.chargeLimit } ∧
  t.bayB = { s.bayB with chargeEnable := t.bayB.chargeEnable, chargeLimit := t.bayB.chargeLimit }

/-- What a load's end may change. -/
def loadParts : List Part :=
  [.bright, .drop, .swapWindow, .bay .a, .bay .b, .settings, .noticeList, .news, .attention]

/-! ### The display and curve tables (R121, R123, R127) -/

/-- A curve point with its values clamped (R127). -/
def clampedPoint (p : CurvePoint) : CurvePoint := { lux := min 120000 p.lux, nits := min 1400 p.nits }

/-- The lux of a list of points strictly increases up to and including index n (R114, R127). -/
def RisingTo (points : List CurvePoint) (n : Nat) : Prop :=
  ∀ i, i < n → (h : i + 1 < points.length) → points[i].lux < points[i + 1].lux

/-- The brightness unit after the display is worked out: a display that turns ON or OFF sets C to 20 nits and the duty with
it; a display that stays changes nothing (R121, R123). -/
def displayed (u : BrightUnit) (setting : Bool) (p : Platform) : BrightUnit :=
  if (setting && (p == .run)) = u.display then { u with displaySetting := setting }
  else { u with
    displaySetting := setting, display := setting && (p == .run), c := 20
    duty := if setting && (p == .run) then 59 else 0
    limitedBy := if setting && (p == .run) then u.limitedBy else .none }

/-! ### The pack link -/

/-- The job that joins at a state's clock (R32). -/
def joiner (s t : State) (b : Bay) (w : Work) : Job :=
  { bay := b, work := w, queuedAt := t.clock / 4, order := s.link.nextOrder }

/-- One job has joined between two states: on an idle link its transaction starts at once; on any other it waits at the end
of the queue (R28, R32, R33). -/
def Joined (s t : State) (b : Bay) (w : Work) : Prop :=
  if s.link.state = .idle then
    t.link = { s.link with
      state := .busy, inFlight := some (startTransaction t.clock (joiner s t b w) (t.bay b))
      nextOrder := s.link.nextOrder + 1 }
  else
    t.link = { s.link with
      waiting := s.link.waiting ++ [joiner s t b w], nextOrder := s.link.nextOrder + 1 }

/-- The slots that jobs answer are slots 0 to 23 (R32, R38). -/
def PackLink.SlotsOk (l : PackLink) : Prop :=
  ∀ j ∈ l.jobs, match j.work with
    | .query slot _ _ _ => slot < 24
    | _ => True

/-- The wire has become free between two states, and these jobs wait: the first by the arbiter's order starts its
transaction, and with none waiting the link is IDLE (R28, R33). -/
def Arbitrated (s t : State) (waiting : List Job) : Prop :=
  (waiting = [] → t.link = { s.link with state := .idle, waiting := [], inFlight := none }) ∧
  ∀ j ∈ waiting, (∀ k ∈ waiting, k ≠ j → j.sooner k = true) →
    t.link = { s.link with
      state := .busy, waiting := waiting.erase j, inFlight := some (startTransaction t.clock j (t.bay j.bay)) }

/-- The pack of a bay is gone for the pack link: every job of the bay has left, and the other bay's go on; a wire that this
frees goes to the arbiter (R41). -/
def GoneFromLink (s t : State) (b : Bay) : Prop :=
  let waiting := s.link.waiting.filter (fun j => !decide (j.bay = b))
  ((s.link.state = .resetting ∨ ∃ x, s.link.inFlight = some x ∧ x.job.bay ≠ b) →
    t.link = { s.link with waiting := waiting }) ∧
  (s.link.state ≠ .resetting → (∀ x, s.link.inFlight = some x → x.job.bay = b) → Arbitrated s t waiting)

/-- Whether a STAMP job among those that leave names a record for a bay (R36, R37). -/
def PackLink.dropsStamp (l : PackLink) (leaves : Job → Bool) (b : Bay) (q : Nat) : Bool :=
  l.jobs.any (fun j => leaves j && decide (j.bay = b) && j.work.stampItems.any (fun i => decide (i.sequence = q)))

/-- A record whose stamps for these bays end FAILED at a state: each PENDING one does, and with the last the record closes
(R37, R162). -/
def ImpactRecord.failed (r : ImpactRecord) (hitA hitB : Bool) (t : State) : ImpactRecord :=
  let a := hitA && decide (r.stampA = .pending)
  let b := hitB && decide (r.stampB = .pending)
  let q : ImpactRecord := { r with
    stampA := if a then .failed else r.stampA
    stampB := if b then .failed else r.stampB }
  if (a || b) && r.isOpen && !q.stamping then { q with isOpen := false, closedUptime := t.uptime, closedAt := t.clock } else q

/-- STAMP jobs have left without a result: their covered and follow-on records take FAILED for the job's bay, and no other
record has changed; a record that closes by it sets news IMPACT (R25, R37, R41, R43, R162). -/
def StampsFailed (s t : State) (leaves : Job → Bool) : Prop :=
  let after := fun (q : Nat) (r : ImpactRecord) =>
    r.failed (s.link.dropsStamp leaves .a q) (s.link.dropsStamp leaves .b q) t
  (∀ q, t.impact.record q = (s.impact.record q).map (after q)) ∧
    ∀ q, ∀ r : ImpactRecord, s.impact.record q = some r → r.isOpen = true → (after q r).isOpen = false →
      t.notices.news &&& newsImpact = newsImpact

/-- Outside a care reset, the write count of the place of every record has gone on by 2 for each rewrite of the place
(R167); what counts as one rewrite is the model's choice where one operation changes a record in several ways (DESIGN
CHOICE, assumption log 7). -/
def PlacesRewritten (s t : State) (times : ImpactRecord → Nat) : Prop :=
  s.StoreLimits → s.port.careReset = false → ∀ i, i < 16 → ∀ r : ImpactRecord, s.impact.places.getD i none = some r →
    Memory.readNat t.port.memory (placeBase i) 4 =
      (Memory.readNat s.port.memory (placeBase i) 4 + 2 * times r) % 2 ^ 32

/-- How many stamp outcomes a record takes when STAMP jobs leave without a result: one for each bay for which a job names it
and its outcome is PENDING (R37, R43, R162). The close that the last one brings counts as no rewrite of its own (DESIGN
CHOICE, assumption log 7). -/
def State.failures (s : State) (leaves : Job → Bool) (r : ImpactRecord) : Nat :=
  (if s.link.dropsStamp leaves .a r.sequence = true ∧ r.stampA = .pending then 1 else 0) +
    (if s.link.dropsStamp leaves .b r.sequence = true ∧ r.stampB = .pending then 1 else 0)

/-- The areas that the answers of the QUERY jobs among those that leave may write (R41, R43). -/
def queryAreas (s : State) (leaves : Job → Bool) : List Area :=
  (s.link.jobs.filter leaves).flatMap (fun j => match j.work with
    | .query k _ _ _ => answerAreas k
    | _ => [])

/-- QUERY jobs have left without a result: each slot of one that still waits for its answer is answered ABORTED with the
reason and byte count 0 (R39, R41, R43, R182). That the outcome byte is the code of the event, for a WAITING job too, is
assumption log 23. -/
def QueriesAborted (s t : State) (leaves : Job → Bool) (outcome : LinkOutcome) (reason : Reason) : Prop :=
  ∀ j ∈ s.link.jobs, leaves j = true → ∀ k n region buffer : Nat, j.work = .query k n region buffer →
    (∀ i ∈ s.link.jobs, i.queryOf k = true → i = j) → s.slotOwner k = ownerAccepted → s.acceptanceOf k = n →
    t.Answered k .aborted reason [byte (bayCode j.bay), byte region, 0, byte (outcomeCode outcome)] ∧
      t.notices.news &&& s.answerNews k = s.answerNews k

/-- The jobs of one bay. -/
def ofBay (b : Bay) : Job → Bool := fun j => decide (j.bay = b)

/-- A bay's pack is gone for the records and the slots that its jobs worked for (R41). -/
def PackGone (s t : State) (b : Bay) : Prop :=
  StampsFailed s t (ofBay b) ∧ QueriesAborted s t (ofBay b) .gone .packGone

/-! ### Releases (R65, R66, R76) -/

/-- L_need (R65). -/
def loadNeed (s : State) : Nat := s.power.lBase + 440 + 1000

/-- Whether the other bay may carry anything: ONLINE, not stale, at least 2 % charged (R65, R66); the gauge-stale mark alone
decides (assumption log 45). -/
def readyToCarry (c : BayContext) : Bool :=
  decide (c.state = .online) && !c.stale && decide (2 ≤ (match c.gauge with
    | some g => g.charge
    | none => 0))

/-- The max discharge that a bay's descriptor gives. -/
def ratedDischarge (c : BayContext) : Nat :=
  match c.descriptor with
  | some d => d.maxDischarge
  | none => 0

/-- The first carrier that qualifies for a release of bay X: DC, the other bay, the bridge cell (R65). -/
def firstCarrier (s : State) (x : Bay) : Option Carrier :=
  if s.power.dc.isSome ∧ loadNeed s ≤ s.power.dcRating then some .dc
  else if readyToCarry (s.bay (otherBay x)) ∧ loadNeed s ≤ ratedDischarge (s.bay (otherBay x)) then
    some (.bay (otherBay x))
  else if loadNeed s ≤ 12000 ∧ loadNeed s * (s.swapWindow + 15) ≤ s.power.bridgeEnergy then some .bridge
  else none

/-- The largest offer for a release of bay X (R66). -/
def bestOffer (s : State) (x : Bay) : Nat :=
  max (if s.power.dc.isSome then s.power.dcRating else 0)
    (max (if readyToCarry (s.bay (otherBay x)) then ratedDischarge (s.bay (otherBay x)) else 0)
      (min 12000 (s.power.bridgeEnergy / (s.swapWindow + 15))))

/-- The refusal of a release request for bay X, by the checks in order, if one fails; before check 4 it reports L_need and
best capacity as 0 (R76). -/
def refusalOf (s : State) (x : Bay) : Option (Reason × Nat × Nat) :=
  if (s.bay x).state = .vacant then some (.noPack, 0, 0)
  else if (s.bay x).state ≠ .online ∨ (s.bay x).latch ≠ .closed then some (.badState, 0, 0)
  else if (s.bay (otherBay x)).state = .releasing then some (.busy, 0, 0)
  else if s.holds.entries.any (fun e => decide (e.kind = .latch x)) then some (.guarded, 0, 0)
  else if firstCarrier s x = none then some (.carryShort, loadNeed s, bestOffer s x)
  else none

/-- A release of bay X has been granted to a requester: the swap context, the bay, its charge allocation and the entry for
the other bay's latch (R58, R79). -/
def Granted (s t : State) (x : Bay) (r : Requester) : Prop :=
  (∀ c : Carrier, firstCarrier s x = some c →
    t.swap = some
      { bay := x, requester := r, carrier := c, phase := .switching, switchingTimer := some (t.clock + ms 20)
        windowTimer := none, need := loadNeed s, best := bestOffer s x, cancelRequested := false, abortReason := none
        pathReclosed := false }) ∧
  (t.bay x).state = .releasing ∧ (t.bay x).pathClosed = false ∧ (t.bay x).pollDue = none ∧
  (t.bay x).descriptor = (s.bay x).descriptor ∧ (t.bay x).gauge = (s.bay x).gauge ∧
  (t.bay x).stale = (s.bay x).stale ∧ (t.bay x).failedPolls = (s.bay x).failedPolls ∧ (t.bay x).latch = .closed ∧
  t.power = (match x with
    | .a => { s.power with chargeA := 0 }
    | .b => { s.power with chargeB := 0 }) ∧
  t.holds.entries = s.holds.entries ++
    [{ kind := .latch (otherBay x), owner := .swap, expiry := none, created := t.uptime }] ∧
  t.notices.news = s.notices.news ||| newsBay

/-- The notices of a release's end: RELEASE_EXPIRED for an expiry, and for any other abort RELEASE_REFUSED with the granted
flag, unless a slot asked (R85, R92). -/
def endPosts (w : SwapContext) (serial : BitVec 64) (e : ReleaseEnd) (removed : Bool) : List Post :=
  match e, w.requester with
  | .aborted .expired, _ =>
    [⟨.releaseExpired, some w.bay, if removed then 1 else 0, leBytes 8 serial.toNat ++ [byte (carrierCode w.carrier)]⟩]
  | .aborted _, .slot _ _ => []
  | .aborted r, _ =>
    [⟨.releaseRefused, some w.bay, 1,
      leBytes 8 serial.toNat ++ [byte (reasonCode (abortReasonOf r))] ++ leBytes 4 w.need ++ leBytes 4 w.best⟩]
  | _, _ => []

/-- The end that a release's context has fixed in RELATCHING (R84). -/
def fixedEndOf (w : SwapContext) : ReleaseEnd :=
  match w.cancelRequested, w.abortReason with
  | false, some r => .aborted r
  | false, none => .removed
  | true, _ => .cancelled

/-- Whether a slot still waits for the answer of a release: it is ACCEPTED by the acceptance that asked (R182). -/
def State.awaits (s : State) (w : SwapContext) (k : Nat) : Prop :=
  w.requester = .slot k (s.acceptanceOf k) ∧ s.slotOwner k = ownerAccepted

/-- The slot that asked for a release and still waits is answered with the context as it stood at the end (R85). -/
def EndAnswered (s t : State) (w : SwapContext) (e : ReleaseEnd) : Prop :=
  let removed := decide ((t.bay w.bay).state = .vacant)
  ∀ k, s.awaits w k → t.Answered k e.status e.reason
    ([byte (bayCode w.bay), byte (bayStateCode (t.bay w.bay).state), byte (latchCode (t.bay w.bay).latch),
      byte (carrierCode w.carrier), byte (phaseCode w.phase),
      byte ((if removed then 1 else 0) + if w.pathReclosed then 2 else 0), 0, 0] ++ leBytes 4 w.need ++ leBytes 4 w.best)

/-- A release's end is reported between two states: to the slot that asked, and by the notices of the end, which follow
those posted before it (R85). -/
def EndReported (s t : State) (w : SwapContext) (e : ReleaseEnd) (before : List Post) : Prop :=
  PostedMany s t (before ++ endPosts w (s.serial w.bay) e (decide ((t.bay w.bay).state = .vacant))) ∧ EndAnswered s t w e

/-- The areas that the answer of an end may write: those of the slot that asked. -/
def askerAreas (w : SwapContext) : List Area :=
  match w.requester with
  | .slot k _ => answerAreas k
  | _ => []

/-- The areas that the report of an end may write: the slot that asked, and the entry places. -/
def endAreas (w : SwapContext) : List Area := noticesArea :: askerAreas w

/-- The news bit of the answer that an end writes, if it writes one (R182). -/
def State.endBits (s : State) (w : SwapContext) : Byte :=
  match w.requester with
  | .slot k n => if s.slotOwner k = ownerAccepted ∧ s.acceptanceOf k = n then s.answerNews k else 0
  | _ => 0

/-- A bay context on its way back to ONLINE: the path switch closed, no jolt data, and the poll timer at a full second
from now, its first poll due at once (R3, R20). -/
def onlineAgain (c : BayContext) (now : Instant) : BayContext :=
  { c with state := .online, pathClosed := true, pollDue := some (now + ms 1000), jolt := none }

/-- The hold entries without the SWAP entry of a release (R85). -/
def withoutSwap (w : SwapContext) (entries : List HoldEntry) : List HoldEntry :=
  entries.filter (fun e => !decide (e.kind = .latch (otherBay w.bay) ∧ e.owner = .swap))

/-- The poll that is due on entry to ONLINE has joined, unless the bay has a GAUGE job (R20). -/
def PollJoined (s t : State) (b : Bay) : Prop :=
  if s.link.hasGauge b then t.link = s.link else Joined s t b .gauge

/-- The context of a release in RELATCHING, its end fixed by an abort reason (R83). -/
def relatchedFor (w : SwapContext) (r : AbortReason) : SwapContext :=
  { w with
    phase := .relatching, switchingTimer := none, windowTimer := none, cancelRequested := false, abortReason := some r }

/-- The context after a carrier loss that no carrier makes good: the path reclosed, with the figures of the failed check
(R91). -/
def reclosedAt (w : SwapContext) (t : State) : SwapContext :=
  { w with pathReclosed := true, need := loadNeed t, best := bestOffer t w.bay }

/-- A release's bay has a latch that a relatch finds CLOSED or STUCK: the release ends at once (R83). -/
def State.latchedFor (s : State) (w : SwapContext) : Prop := (s.bay w.bay).latch = .closed ∨ (s.bay w.bay).latch = .stuck

/-- A release's bay after the drive to close of a relatch: an OPENING or OPEN latch is CLOSING, any other is as it was
(R73, R83). -/
def drivenClosedAt (c : BayContext) (now : Instant) : BayContext :=
  if c.latch = .opening ∨ c.latch = .opened then { c with latch := .closing, latchTimer := some (now + ms 400) } else c

/-- The loss of its carrier ends a release at once: no carrier qualifies, it does not relatch yet, and its latch is CLOSED,
as in SWITCHING, or STUCK (R83, R91). -/
def LossEnds (s t : State) (w : SwapContext) : Prop :=
  firstCarrier t w.bay = none ∧ w.phase ≠ .relatching ∧ s.latchedFor w

/-- The carry check has been run again for a release that goes on, with the values that stand after its carrier's loss: its
carrier and figures are those of the check, or the path recloses and, unless it already relatches, the release does (R90,
R91). -/
def CarrierChecked (s t : State) (w : SwapContext) : Prop :=
  (∀ c : Carrier, firstCarrier t w.bay = some c →
    t.swap = some { w with carrier := c, need := loadNeed t, best := bestOffer t w.bay } ∧
      t.bay w.bay = s.bay w.bay) ∧
  (firstCarrier t w.bay = none →
    (w.phase = .relatching →
      t.swap = some (reclosedAt w t) ∧ t.bay w.bay = { s.bay w.bay with pathClosed := true }) ∧
    (w.phase ≠ .relatching →
      t.swap = some (relatchedFor (reclosedAt w t) .carrierLost) ∧
        t.bay w.bay = drivenClosedAt { s.bay w.bay with pathClosed := true } t.clock))

/-- A release has ended in the operation that would relatch it, with this context: its bay is ONLINE again, the SWAP entry
is gone, and the slot that asked is answered ABORTED (R83, R84, R85). -/
def EndedAtOnce (s t : State) (w v : SwapContext) (r : AbortReason) : Prop :=
  t.swap = none ∧ t.bay w.bay = onlineAgain (s.bay w.bay) t.clock ∧ EndAnswered s t v (.aborted r)

/-- The notices of such an end (R85). -/
def abortPosts (s : State) (v : SwapContext) (r : AbortReason) : List Post := endPosts v (s.serial v.bay) (.aborted r) false

/-- The slot that asks for a release is one of slots 0 to 23, and no QUERY job names it (R32, R69, R178). -/
def State.AsksAlone (s : State) (w : SwapContext) : Prop :=
  ∀ k n : Nat, w.requester = .slot k n → k < 24 ∧ ∀ j ∈ s.link.jobs, j.queryOf k = false

/-- A bay without a pack: VACANT with its path switch open, and nothing of a pack left (R7, R8, R86). -/
def BayContext.Empty (c : BayContext) : Prop :=
  c.state = .vacant ∧ c.pathClosed = false ∧ c.descriptor = none ∧ c.gauge = none ∧ c.stale = false ∧
    c.failedPolls = 0 ∧ c.barred = none ∧ c.seatingTimer = none ∧ c.pollDue = none ∧ c.jolt = none

/-- What belongs to the bay and not to its pack is the same in two bay contexts (R1, R26, R71, R77). -/
def BayContext.SameBay (c d : BayContext) : Prop :=
  d.latch = c.latch ∧ d.latchTimer = c.latchTimer ∧ d.chargeEnable = c.chargeEnable ∧ d.chargeLimit = c.chargeLimit ∧
    d.pressTimer = c.pressTimer ∧ d.releaseWait = c.releaseWait

/-- The request slots. -/
def slotsArea : Area := (0x0200, 1536)

/-! ### Budget steps (R52 to R61) -/

/-- A bay supplies while its path switch is CLOSED; in PACKS it adds its max discharge to S, if it has energy left (R53). -/
def packSupply (c : BayContext) : Nat :=
  if c.pathClosed ∧ 0 < (match c.gauge with
    | some g => g.remaining
    | none => 0) then ratedDischarge c else 0

/-- The relative charge of a bay's gauge values, 0 without them (R57). -/
def chargeOf (c : BayContext) : Nat :=
  match c.gauge with
  | some g => g.charge
  | none => 0

/-- The max charge that a bay's descriptor gives (R57). -/
def ratedCharge (c : BayContext) : Nat :=
  match c.descriptor with
  | some d => d.maxCharge
  | none => 0

/-- A bay that may take charge power: ONLINE, enabled, below its limit, and at 0 to 45.0 °C (R57). -/
def mayCharge (c : BayContext) : Bool :=
  decide (c.state = .online) && c.chargeEnable && decide (chargeOf c < c.chargeLimit) && (match c.gauge with
    | some g => decide (0 ≤ g.temperature ∧ g.temperature ≤ 450)
    | none => false)

/-- The figures that a budget step leaves, from the state before it: P_sys, P_bl and L_base, the mode and S, W_bl, E_br, H
and the allocations, the lower relative charge first and bay A on a tie, and the carrying episode (R52 to R61). -/
def BudgetFigures (s t : State) : Prop :=
  let p := s.power
  let q := t.power
  let rest := q.headroom - q.chargeBridge
  let second := mayCharge s.bayB = true ∧ chargeOf s.bayB < chargeOf s.bayA
  let episode : CarryingEpisode :=
    if p.mode = .bridge then p.episode.getD { lowPosted := false, critical := false, runtime := 0 }
    else { lowPosted := false, critical := false, runtime := 0 }
  q.pSys = (if p.samples = [] then 0 else min 150000 (p.samples.sum / p.samples.length)) ∧
  q.pBl = (if s.bright.display then 300 + 7 * s.bright.c else 0) ∧ q.lBase = q.pSys - q.pBl ∧
  (p.dc.isSome = true → q.mode = .dc ∧ q.supply = p.dcRating) ∧
  (p.dc = none → (s.bayA.pathClosed = true ∨ s.bayB.pathClosed = true) →
    q.mode = .packs ∧ q.supply = packSupply s.bayA + packSupply s.bayB) ∧
  (p.dc = none → s.bayA.pathClosed = false → s.bayB.pathClosed = false → q.mode = .bridge ∧ q.supply = 12000) ∧
  q.allowance = max 440 (min 10100 (q.supply - q.lBase - 1000)) ∧
  (q.bridgeEnergy : Int) = max 0 (min 20000000 ((p.bridgeEnergy : Int) -
    (if p.mode = .bridge ∨ q.mode = .bridge then ((q.pSys + 9) / 10 : Nat) else (0 : Nat)) +
    (if p.dc.isSome then (p.chargeBridge / 10 : Nat) else (0 : Nat)))) ∧
  q.headroom = (if p.dc.isSome then q.supply - q.lBase - q.pBl - 1000 else 0) ∧
  q.chargeBridge = (if q.bridgeEnergy < 19000000 then min 1500 q.headroom else 0) ∧
  q.chargeA = (if mayCharge s.bayA then min (rest - (if second then q.chargeB else 0)) (ratedCharge s.bayA) else 0) ∧
  q.chargeB = (if mayCharge s.bayB then min (rest - (if second then 0 else q.chargeA)) (ratedCharge s.bayB) else 0) ∧
  q.chargeBridge + q.chargeA + q.chargeB ≤ q.headroom ∧
  q.episode = (if q.mode = .bridge then
      some
        { lowPosted := episode.lowPosted || decide (q.bridgeEnergy / max q.pSys 1 < 60)
          critical := episode.critical || decide (q.bridgeEnergy / max q.pSys 1 < 15)
          runtime := q.bridgeEnergy / max q.pSys 1 }
    else none) ∧
  q.dc = p.dc ∧ q.debounce = p.debounce ∧ q.samples = p.samples ∧ q.platform = p.platform ∧ q.railDue = p.railDue ∧
  q.budgetDue = p.budgetDue + ms 100

/-- The warnings of a budget step, in order: BRIDGE_LOW and BRIDGE_CRITICAL when their marks are set by it (R60, R61). -/
def bridgePosts (s t : State) : List Post :=
  let figures := leBytes 4 t.power.runtime ++ leBytes 4 t.power.bridgeEnergy ++ leBytes 4 t.power.pSys
  (if t.power.lowPosted = true ∧ ¬ (s.power.mode = .bridge ∧ s.power.lowPosted = true) then
    [⟨.bridgeLow, none, 0, figures⟩] else []) ++
  (if t.power.critical = true ∧ ¬ (s.power.mode = .bridge ∧ s.power.critical = true) then
    [⟨.bridgeCritical, none, 0, figures⟩] else [])

/-- The last notice of a budget step: SOURCE_CHANGE when the mode has changed (R55). -/
def sourcePosts (s t : State) : List Post :=
  if t.power.mode = s.power.mode then [] else
    [⟨.sourceChange, none, 0, [byte (modeCode t.power.mode), byte (modeCode s.power.mode), byte t.power.dcCode,
      byte ((if s.bayA.pathClosed then 1 else 0) + if s.bayB.pathClosed then 1 else 0)] ++ leBytes 4 t.power.dcRating ++
      leBytes 4 t.power.supply ++ leBytes 4 t.power.allowance⟩]

/-- The news bit POWER, which a budget step sets with a change of mode and with BRIDGE_CRITICAL (R55, R61). -/
def budgetNews (s t : State) : Byte :=
  if t.power.mode ≠ s.power.mode ∨ (t.power.critical = true ∧ ¬ (s.power.mode = .bridge ∧ s.power.critical = true))
  then newsPower else 0

/-! ### Brightness steps (R114, R117, R119) -/

/-- The luminance that a curve table gives a filtered ambient: the end points' beyond the ends, and between two points the
line, its division truncated toward zero (R114). -/
def OnCurve (curve : List CurvePoint) (a t0 : Nat) : Prop :=
  (∀ p : CurvePoint, curve.head? = some p → a ≤ p.lux → t0 = p.nits) ∧
  (∀ p : CurvePoint, curve.getLast? = some p → p.lux ≤ a → t0 = p.nits) ∧
  ∀ i, (h : i + 1 < curve.length) → curve[i].lux ≤ a → a < curve[i + 1].lux →
    (t0 : Int) = curve[i].nits + Int.tdiv (((curve[i + 1].nits : Int) - curve[i].nits) * ((a : Int) - curve[i].lux))
      ((curve[i + 1].lux : Int) - curve[i].lux)

/-! ### Samples of the drop monitor (R133, R135) -/

/-- A sample with each axis clamped to −16000 to +16000 mg (R135). -/
def heldSample (a : Accel) : Accel :=
  { x := max (-16000) (min 16000 a.x), y := max (-16000) (min 16000 a.y), z := max (-16000) (min 16000 a.z) }

/-- M of a sample after the clamp (R135). -/
def magnitude (a : Accel) : Nat :=
  (heldSample a).x.natAbs ^ 2 + (heldSample a).y.natAbs ^ 2 + (heldSample a).z.natAbs ^ 2

/-- A sample with an axis at −16000 or +16000 mg after the clamp (R135). -/
def clippedSample (a : Accel) : Bool :=
  decide (16000 ≤ a.x.natAbs) || decide (16000 ≤ a.y.natAbs) || decide (16000 ≤ a.z.natAbs)

/-- A low sample (R133, R135). -/
def State.Low (s : State) (a : Accel) : Prop := magnitude a < s.drop.thresholds.freeFall ^ 2

/-- A high sample (R133, R135). -/
def State.High (s : State) (a : Accel) : Prop := s.drop.thresholds.impact ^ 2 ≤ magnitude a

/-- A strike sample: high, and at or above the strike threshold in use (R133, R135). -/
def State.Strike (s : State) (a : Accel) : Prop :=
  (max s.drop.thresholds.strike s.drop.thresholds.impact) ^ 2 ≤ magnitude a

/-- The four kinds that the drop monitor holds, in the order of its adds (R143). -/
def fallKinds : List HoldKind := [.latch .a, .latch .b, .storage, .brightFreeze]

/-- The FALL entries as an episode's begin adds them at a state's uptime (R96, R143). -/
def fallEntries (s : State) : List HoldEntry :=
  fallKinds.map (fun k => { kind := k, owner := .fall, expiry := none, created := s.uptime })

/-- No FALL entry stands. -/
def State.NoFall (s : State) : Prop := ∀ e ∈ s.holds.entries, e.owner ≠ .fall

/-- All four FALL entries stand. -/
def State.AllFall (s : State) : Prop := ∀ k ∈ fallKinds, s.holds.holds k .fall = true

/-- The four FALL entries stand while an episode exists, and no FALL entry stands without one. An episode exists in FALLING,
IMPACT and SETTLING, and while the guard tail timer runs, which it does in other states alone; the timers of SETTLING
and STARTING stand only in their states, and no sample is due in STARTING (R131, R140, R143, R153). -/
def State.FallAgrees (s : State) : Prop :=
  (s.drop.episode.isSome = true → s.AllFall) ∧ (s.drop.episode = none → s.NoFall) ∧
  (s.drop.state = .falling ∨ s.drop.state = .impact ∨ s.drop.state = .settling →
    s.drop.episode.isSome = true ∧ s.drop.guardTail = none) ∧
  (s.drop.guardTail.isSome = true → s.drop.episode.isSome = true) ∧
  (s.drop.settling.isSome = true → s.drop.state = .settling) ∧ (s.drop.starting.isSome = true → s.drop.state = .starting) ∧
  (s.drop.sampleDue.isSome = true → s.drop.state ≠ .starting)

/-- The impact window at its first high sample (R146). -/
def windowAt (kind : ImpactKind) (n uptime : Nat) (a : Accel) : ImpactWindow :=
  { count := 1, kind := kind, n := n, firstHigh := uptime, peakM := magnitude a, peakSample := heldSample a
    clipped := clippedSample a }

/-- The window after a further sample, good or missing (R136, R146). -/
def windowNext (w : ImpactWindow) (reading : Option Accel) : ImpactWindow :=
  match reading with
  | none => { w with count := w.count + 1 }
  | some a =>
    { w with
      count := w.count + 1
      peakM := max w.peakM (magnitude a)
      peakSample := if w.peakM < magnitude a then heldSample a else w.peakSample
      clipped := w.clipped || clippedSample a }

/-- A record's dominant axis is one of largest magnitude, with its sign, X before Y before Z (R138). -/
def Dominates (a : Accel) (d : Axis) : Prop :=
  let x := a.x.natAbs
  let y := a.y.natAbs
  let z := a.z.natAbs
  (y ≤ x → z ≤ x → d = if a.x < 0 then .xNeg else .xPos) ∧
  (x < y → z ≤ y → d = if a.y < 0 then .yNeg else .yPos) ∧
  (x < z → y < z → d = if a.z < 0 then .zNeg else .zPos)

/-- A peak and a severity are those of a squared magnitude and a clipped mark (R138, R139). -/
def PeakOf (m : Nat) (clipped : Bool) (peak : Nat) (severity : Severity) : Prop :=
  peak * peak ≤ m ∧ m < (peak + 1) * (peak + 1) ∧
    severity = if clipped = true ∨ 16000 ≤ peak then .severe else if 8000 ≤ peak then .major else .minor

/-- An opening takes this place: with a place free, the lowest free one; with all 16 full, that of the oldest record that is
neither pinned nor open (R159). -/
def ImpactStore.OpensAt (u : ImpactStore) (i : Nat) : Prop :=
  (u.places.getD i none = none ∧ ∀ j, j < i → u.places.getD j none ≠ none) ∨
  ((∀ j, j < 16 → u.places.getD j none ≠ none) ∧ ∃ e, u.places.getD i none = some e ∧ e.pinned = false ∧ e.isOpen = false ∧
    ∀ j, j < 16 → j ≠ i → ∀ q, u.places.getD j none = some q → q.pinned = false → q.isOpen = false → e.sequence < q.sequence)

/-- An opening asked for now opens no record: the counter is exhausted (R159), or, which the limits of R158 rule out, all 16
records are pinned or open (assumption log 29). -/
def ImpactStore.OpensNone (u : ImpactStore) : Prop :=
  4294967295 < u.nextSequence ∨ ∀ j, j < 16 → ∃ q, u.places.getD j none = some q ∧ (q.pinned = true ∨ q.isOpen = true)

/-- The sequence that an opening returns, 0 when the counter is exhausted (R159). -/
def ImpactStore.opensAs (u : ImpactStore) : Nat := if u.nextSequence ≤ 4294967295 then u.nextSequence else 0

/-- The store that an opening leaves: the record at its place with the counter risen by 1 and every other place as it was,
or no change when none is opened (R159). -/
def Opened (u v : ImpactStore) (r : ImpactRecord) : Prop :=
  (∀ i : Fin 16, u.nextSequence ≤ 4294967295 → u.OpensAt i.val →
    v = { places := u.places.set i.val (some r), nextSequence := u.nextSequence + 1 }) ∧
  (u.OpensNone → v = u)

/-- The record that a window cut short by a lost sensor opens: as any other, with the sensor-lost mark (R147, R152). -/
def LostOpening (s : State) (w : ImpactWindow) (r : ImpactRecord) : Prop :=
  PeakOf w.peakM w.clipped r.peak r.severity ∧ Dominates w.peakSample r.axis ∧
  r = { r with
    sequence := s.impact.opensAs, uptime := w.firstHigh, kind := w.kind, n := w.n
    height := (w.n * w.n * 7661 + 500000) / 1000000, peakM := w.peakM, clipped := w.clipped, bounces := 0
    platform := s.power.platform, bayStateA := s.bayA.state, bayStateB := s.bayB.state, joltA := .none, joltB := .none
    stampA := .none, stampB := .none, sensorLost := true, isOpen := true, pinned := false }

/-- The record that such a window is folded into, before and after: as any other fold, with the sensor-lost mark (R148,
R152). -/
def LostFold (o : ImpactRecord) (w : ImpactWindow) (r : ImpactRecord) : Prop :=
  r.peakM = max o.peakM w.peakM ∧ r.clipped = (o.clipped || w.clipped) ∧ r.n = max o.n w.n ∧
  r.height = (if o.n < w.n then (w.n * w.n * 7661 + 500000) / 1000000 else o.height) ∧
  (o.peakM < w.peakM → PeakOf r.peakM r.clipped r.peak r.severity ∧ Dominates w.peakSample r.axis) ∧
  (w.peakM ≤ o.peakM → r.peak = o.peak ∧ r.axis = o.axis ∧ r.severity = if w.clipped then .severe else o.severity) ∧
  r = { o with
    bounces := min 255 (o.bounces + 1), peakM := r.peakM, peak := r.peak, axis := r.axis, clipped := r.clipped
    severity := r.severity, n := r.n, height := r.height, sensorLost := true }

/-- The notice IMPACT of a window cut short, its flags clipped, folded and sensor-lost (R147, R148, R152). -/
def lostImpactPost (r : ImpactRecord) (folded : Bool) : Post :=
  ⟨.impact, none, (if r.clipped then 1 else 0) + (if folded then 2 else 0) + 4,
    leBytes 4 r.sequence ++ [byte (impactKindCode r.kind)] ++ leBytes 2 r.n ++ leBytes 2 r.height ++
      leBytes 2 r.peak ++ [byte (axisCode r.axis), byte (severityCode r.severity)]⟩

/-- Every open record of a list but one has the sensor-lost mark, and is else as before (R152). -/
def MarkedLost (s t : State) (records : List Nat) (but : Option Nat) : Prop :=
  ∀ q ∈ records, some q ≠ but → ∀ r : ImpactRecord, s.impact.record q = some r → r.isOpen = true →
    t.impact.record q = some { r with sensorLost := true }

/-- The places after the records of a list have taken the sensor-lost mark, each open one (R152, R160). -/
def lostIn (records : List Nat) (places : List (Option ImpactRecord)) : List (Option ImpactRecord) :=
  places.map (fun p => p.map (fun r =>
    if r.isOpen = true ∧ r.sequence ∈ records then { r with sensorLost := true } else r))

/-- An impact window has been cut short: with fewer than two open records it opens one, and with two it is folded into the
newest; IMPACT is posted before the given notices, and the episode's records, the one just returned among them, take the
sensor-lost mark (R147, R148, R152, R154, R159). -/
def WindowCut (s t : State) (w : ImpactWindow) (after : List Post) : Prop :=
  (s.impact.openCount < 2 →
    ∃ (r : ImpactRecord) (u : ImpactStore), LostOpening s w r ∧ Opened s.impact u r ∧
      t.impact = { u with places := lostIn t.drop.records u.places } ∧
      t.drop.episode = (match s.drop.episode with
        | some e => some { e with records := e.records ++ [s.impact.opensAs] }
        | none => none) ∧
      PostedMany s t (lostImpactPost r false :: after)) ∧
  ∀ o : ImpactRecord, s.impact.openCount = 2 → s.impact.record o.sequence = some o → o.isOpen = true →
    (∀ q ∈ s.impact.records, q.isOpen = true → q ≠ o → q.sequence < o.sequence) →
    ∃ r : ImpactRecord, LostFold o w r ∧ t.impact.record o.sequence = some r ∧
      t.impact.nextSequence = s.impact.nextSequence ∧ t.drop.episode = s.drop.episode ∧
      PostedMany s t (lostImpactPost r true :: after) ∧ MarkedLost s t s.drop.records (some o.sequence)

/-- A jolt outcome for a bay has been handed between two states: the newest record takes it while it is open or closed
less than 500 ms before, in elapsed time (assumption log 46), and no other record has changed (R13, R163). -/
def JoltHanded (s t : State) (b : Bay) (o : JoltOutcome) : Prop :=
  (s.impact.records = [] → t.impact = s.impact) ∧
  ∀ r ∈ s.impact.records, (∀ q ∈ s.impact.records, q ≠ r → q.sequence < r.sequence) →
    t.impact.record r.sequence = some (if r.isOpen = true ∨ t.clock < r.closedAt + ms 500 then
        (match b with
          | .a => { r with joltA := o }
          | .b => { r with joltB := o })
      else r) ∧
    ∀ q : Nat, q ≠ r.sequence → t.impact.record q = s.impact.record q

/-- The records of a list have taken a stamp outcome for a bay: each whose outcome was PENDING, which closes with it
unless the other bay's is PENDING; and no record of another sequence has changed (R37, R162). -/
def StampsResolved (s t : State) (b : Bay) (o : StampOutcome) (items : List StampItem) : Prop :=
  (∀ i ∈ items, ∀ r : ImpactRecord, s.impact.record i.sequence = some r →
    if r.stampOf b = .pending then
      ∃ r' : ImpactRecord, t.impact.record i.sequence = some r' ∧
        let stamped := match b with
          | .a => { r with stampA := o }
          | .b => { r with stampB := o }
        r' = if r.isOpen = true ∧ r.stampOf (otherBay b) ≠ .pending then
            { stamped with isOpen := false, closedUptime := t.uptime, closedAt := t.clock }
          else stamped
    else t.impact.record i.sequence = some r) ∧
  ∀ q : Nat, (∀ i ∈ items, i.sequence ≠ q) → t.impact.record q = s.impact.record q

/-- What a settling end leaves of the records of an episode, each open one: PENDING for each bay that takes a stamp, which
has a STAMP job that names the record; and closed, if no stamp of it is PENDING (R36, R161, R162). -/
def SettledRecords (s t : State) : Prop :=
  let takes := fun b : Bay => (s.bay b).state = .online ∧ ∃ d, (s.bay b).descriptor = some d ∧ d.marks.getLsbD 3 = true
  ∀ q ∈ s.drop.records, ∀ r : ImpactRecord, s.impact.record q = some r →
    (r.isOpen = false → t.impact.record q = some r) ∧
    (r.isOpen = true →
      (∀ b : Bay, takes b → (∃ r', t.impact.record q = some r' ∧ r'.isOpen = true ∧ r'.stampOf b = .pending) ∧
        ∃ j ∈ t.link.jobs, j.bay = b ∧ ∃ i ∈ j.work.stampItems, i.sequence = q) ∧
      (¬ takes .a → ¬ takes .b → r.stampA ≠ .pending → r.stampB ≠ .pending →
        t.impact.record q = some { r with isOpen := false, closedUptime := t.uptime, closedAt := t.clock }))

/-- The kinds' freeze, and every hold entry but FALL's, after an episode's end (R97, R104). -/
def FallReleased (s t : State) : Prop :=
  t.holds.entries = s.holds.entries.filter (fun e => decide (e.owner ≠ .fall)) ∧
    t.bright = { s.bright with frozen := t.holds.inForce .brightFreeze }

/-! ### Ends of transactions (R11, R14 to R18, R28, R30, R31) -/

/-- A command ends the transaction in flight: a good answer frame, with what it carries; a frame that fails its check, or
a gap, at the second attempt; and an answer window in which no frame has begun (R28, R30, R31). -/
inductive WireEnd (x : Transaction) : Instr → LinkOutcome → Option (List Byte) → Prop where
  | good (bytes : List Byte) (h : x.phase = .answering) (hg : x.job.work.answerGood bytes = true) :
      WireEnd x (.answerFrame bytes) .good (some (x.job.work.answerData bytes))
  | bad (bytes : List Byte) (h : x.phase = .answering) (ha : x.attempt = 2) (hg : x.job.work.answerGood bytes = false) :
      WireEnd x (.answerFrame bytes) .linkError none
  | gap (h : x.phase = .answering) (ha : x.attempt = 2) : WireEnd x .answerFrameGapEnd .linkError none
  | silent (till : Instant) (h : x.phase = .window till) : WireEnd x .answerWindowExpiry .noAnswer none

/-- The clock after such an end: at the window's end it moves on to it (assumption log 1). -/
def wireClock (s : State) (x : Transaction) : Instant :=
  match x.phase with
  | .window till => max s.clock till
  | _ => s.clock

/-- The regions that a full IDENT job has read after the read in flight. -/
def regionsRead (regions : List (List Byte)) (data : Option (List Byte)) : List (List Byte) := regions ++ data.toList

/-- Checks 1 to 4 of R15, in order, on the regions read: the first that fails. -/
def readFault (regions : List (List Byte)) : Option BarredReason :=
  let r0 := regions.getD 0 []
  let r1 := regions.getD 1 []
  if 1 ≤ regions.length ∧ field r0 0 2 ≠ 0x5C3A then some .notAPack
  else if 1 ≤ regions.length ∧ (field r0 2 1 < 1 ∨ 4 < field r0 2 1) then some .badLayout
  else if 1 ≤ regions.length ∧ ((field r0 3 1 ≠ 1 ∧ field r0 3 1 ≠ 2) ∨ (field r0 4 1 ≠ 3 ∧ field r0 4 1 ≠ 4)) then
    some .unsupported
  else if 2 ≤ regions.length ∧
      (field r1 0 2 < 9000 ∨ 17000 < field r1 0 2 ∨ field r1 8 4 < 5000 ∨ 60000 < field r1 8 4) then some .badRating
  else none

/-- Whether a full IDENT job goes on after a read: the read was good, no check has failed, and a region is left (R14). -/
def identGoesOn (regions : List (List Byte)) (data : Option (List Byte)) : Prop :=
  data.isSome = true ∧ readFault (regionsRead regions data) = none ∧
    (regionsRead regions data).length < field ((regionsRead regions data).getD 0 []) 2 1

/-- The reason that a full IDENT job's end gives, by the checks of R15 in order, if one fails. -/
def barredFor (regions : List (List Byte)) (failed : Bool) (other : BayContext) : Option BarredReason :=
  match readFault regions with
  | some r => some r
  | none =>
    if 1 ≤ regions.length ∧ (other.state = .online ∨ other.state = .releasing ∨ other.state = .jolted) ∧
        (∃ d ∈ other.descriptor, d.serial = BitVec.ofNat 64 (field (regions.getD 0 []) 8 8)) then some .duplicateSerial
    else if failed then some .noAnswer
    else none

/-- The descriptor that the regions read give, with the defaults of those that were not (R16; 13, PACK MEMORY). -/
def readDescriptor (regions : List (List Byte)) : Descriptor :=
  let of := fun (region offset size default : Nat) =>
    if region < regions.length then field (regions.getD region []) offset size else default
  { regionCount := of 0 2 1 0, chemistry := of 0 3 1 0, series := of 0 4 1 0
    serial := BitVec.ofNat 64 (field (regions.getD 0 []) 8 8)
    nominal := of 1 0 2 0, chargeVoltage := of 1 2 2 0, design := of 1 4 4 0, maxDischarge := of 1 8 4 30000
    maxCharge := of 1 12 4 20000, cycles := of 2 0 2 0, health := of 2 2 1 100
    shockCount := of 3 0 2 0, lastSeverity := of 3 2 1 0, lastSequence := of 3 3 2 0
    marks := byte (2 ^ min regions.length 4 - 1) }

/-- The arbiter has the wire again after an entry to ONLINE or READING that queues a job: the joiner waits with the others,
unless the bay has such a GAUGE job already (R20, R28, R33). -/
def ArbitratedWith (s t : State) (b : Bay) (w : Work) : Prop :=
  if w = .gauge ∧ s.link.hasGauge b = true then Arbitrated s t s.link.waiting
  else Arbitrated { s with link := { s.link with nextOrder := s.link.nextOrder + 1 } } t
    (s.link.waiting ++ [joiner s t b w])

end Sys2Proof.Machine
end

