-- ==== Sys2Proof/Certificates/Slice0/Obligations.lean ====
section
/-! DEFINITION. The statements for the provers. Each docstring names the rules that its statement formalises. -/

open Sys2Proof Sys2Proof.Machine

/-! ### The step, and the whole block -/

/-- A step takes the command at the front of the queue and runs it with the queue's rest. On an empty queue the clock runs
on by a quarter millisecond, and nothing else happens, but that a READ in progress is served a number of its next words, each
as care memory stands then, so that what the part wrote since its last word falls between two words of one READ (R170, R171;
the idle step and the pace are the model's choice, assumption logs 2 and 6, and so is it that a READ held by a care reset
shows memory in the words served after the reset's end, log 22). -/
def Obligations.StepRunsFrontCommand : Prop :=
  (∀ (c : Instr) (rest : List Instr) (s : State), s.pending = c :: rest → step s = exec c { s with pending := rest }) ∧
    (∀ s : State, s.pending = [] → s.NoRead → step s = .next s.tick) ∧
    ∀ (status : PortStatus) (served : List Byte) (addr left : Nat) (s : State), s.pending = [] → 0 < left →
      s.port.answer = some (.reading status served addr left) →
      ∃ (t : State) (a : PortAnswer), step s = .next t ∧ t.clock = s.clock + 1 ∧ t.port.answer = some a ∧
        ServedOn s.tick false status served addr left a ∧ Kept [.clock, .answer, .free] s t ∧ BytesKept [] s t

/-- Every command answers a next state, in every state and for all operands, and leaves the queue alone: the manual
gives no event an effect that stops the part. -/
def Obligations.NoCommandStops : Prop :=
  ∀ (c : Instr) (s : State), ∃ t, exec c s = .next t ∧ t.pending = s.pending

/-- The state right after a power-on reset meets every invariant below (R2, R27, R46, R70, R95, R107, R132, R158, R168,
R179, R188, R195). -/
def Obligations.ResetMeetsInvariants : Prop :=
  State.reset.LinesHold ∧ Memory.wf State.reset.port.memory = true ∧ State.reset.notices.Ordered ∧
    State.reset.ReleaseAgrees ∧ State.reset.link.Agrees ∧ State.reset.IntakeAgrees ∧ State.reset.PageShows ∧
    State.reset.BrightBound ∧ State.reset.Shaped ∧ State.reset.EpisodeAgrees ∧ State.reset.MonitorShows ∧
    State.reset.PlacesShow ∧ State.reset.ListShows ∧ State.reset.StoreLimits ∧ State.reset.FallAgrees ∧
    State.reset.LatchAgrees ∧ State.reset.DisplayAgrees ∧ State.reset.ReadAgrees

/-- Every step leaves ATTENTION, STORAGE_GUARD and HIBERNATE_REQUEST at the levels of their rules (R195, R103, R61,
R63). -/
def Obligations.StepKeepsLines : Prop :=
  ∀ s t : State, s.LinesHold → step s = .next t → t.LinesHold

/-- Every step keeps care memory in its one form: addresses strictly rising within care memory, and no byte listed that
reads as an unlisted one does. The form is the model's own (R168 gives the zero that an unlisted byte reads as). -/
def Obligations.StepKeepsMemoryForm : Prop :=
  ∀ s t : State, Memory.wf s.port.memory = true → step s = .next t → Memory.wf t.port.memory = true

/-- Every step keeps the notice unit in order: the indices span the list, sequences count up to the counter, and a
notice is deferred only while the list is full, at most one of a kind. In care memory every listed entry stands at its
place, byte by byte, outside a care reset, which writes the list at its end (R188, R189, R190, R191, R192). -/
def Obligations.StepKeepsNoticesOrdered : Prop :=
  (∀ s t : State, s.notices.Ordered → step s = .next t → t.notices.Ordered) ∧
    ∀ s t : State, s.ListShows → step s = .next t → t.ListShows

/-- Every step keeps the agreement of the release in progress with the bays: a path switch is closed only in ONLINE, or
in RELEASING with the path-reclosed mark set, a bay is RELEASING exactly while the swap context is its own, and a bay's
seating timer and jolt data stand only in SEATING and JOLTED (R1, R3, R69). Every step also keeps a carrying episode to
the mode BRIDGE (R45, R60). -/
def Obligations.StepKeepsReleaseAgreement : Prop :=
  (∀ s t : State, s.ReleaseAgrees → step s = .next t → t.ReleaseAgrees) ∧
    ∀ s t : State, s.EpisodeAgrees → step s = .next t → t.EpisodeAgrees

/-- Every step keeps the link state in agreement with the transaction in flight, the queue and the reset timer (R27,
R28, R33, R42). -/
def Obligations.StepKeepsLinkAgreement : Prop :=
  ∀ s t : State, s.link.Agrees → step s = .next t → t.link.Agrees

/-- Every step keeps the intake list: every slot in READY stands in it exactly once, and it holds no other slot (R179). -/
def Obligations.StepKeepsIntake : Prop :=
  ∀ s t : State, s.IntakeAgrees → step s = .next t → t.IntakeAgrees

/-- Every step leaves the live page sections of the power unit, the bays, the brightness unit and the hold set showing
their blocks, each between equal counts, outside start-up and a care reset; the drop monitor's section shows it as of its
latest rewrite, which a change of its state, its guard tail or its thresholds brings; and each impact store place is
steady and shows its record (R1, R64, R105, R130, R156, R158, R167, R177). That a section other than the hold set's is
rewritten once in a command is the model's choice (assumption log 7). -/
def Obligations.StepKeepsLivePage : Prop :=
  (∀ s t : State, s.PageShows → step s = .next t → t.PageShows) ∧
  (∀ s t : State, s.MonitorShows → step s = .next t → t.MonitorShows ∧
    (t.port.held = false →
      (t.drop.state ≠ s.drop.state ∨ t.drop.guardTail.isSome ≠ s.drop.guardTail.isSome ∨
        t.drop.thresholds ≠ s.drop.thresholds ∨ s.port.held = true) →
      Shows t.port.memory dropArea (dropBody t.drop))) ∧
  ∀ s t : State, s.PlacesShow → step s = .next t → t.PlacesShow

/-- Every step keeps the bounds of the luminance: with the display ON, C lies in 20 to 1400 nits and within the limit
of the allowance, and the duty is that of C; with it OFF, C is 20 nits and the duty 0 (R119, R120, R124). -/
def Obligations.StepKeepsBrightBound : Prop :=
  ∀ s t : State, s.BrightBound → step s = .next t → t.BrightBound

/-- Every step keeps the shapes that the manual fixes: 24 acceptance numbers, 16 record places, one entry of a (kind,
owner) pair in the hold set, STORAGE never held by SOFTWARE, the frozen mark with BRIGHT_FREEZE, and a window's peak
within that of clamped axes. Every step keeps the limits of the impact store: at most 12 pinned and 2 open records, with
distinct sequences below the counter. Every step keeps the four FALL entries with the episode, which stands in FALLING,
IMPACT and SETTLING; keeps every latch from OPENING and OPEN while its kind is in force or its bay is not released; and
keeps the display ON exactly in RUN with its setting ON. A READ stays in progress only with HOST_PRESENT high and bytes
left (R94, R102, R104, R121, R131, R135, R158, R168, R170, R185). -/
def Obligations.StepKeepsShape : Prop :=
  (∀ s t : State, s.Shaped → step s = .next t → t.Shaped) ∧
  (∀ s t : State, s.StoreLimits → step s = .next t → t.StoreLimits) ∧
  (∀ s t : State, s.FallAgrees → step s = .next t → t.FallAgrees) ∧
  (∀ s t : State, s.LatchAgrees → step s = .next t → t.LatchAgrees) ∧
  (∀ s t : State, s.DisplayAgrees → step s = .next t → t.DisplayAgrees) ∧
  ∀ s t : State, s.ReadAgrees → step s = .next t → t.ReadAgrees

/-! ### HOST_PRESENT and the port -/

/-- HOST_PRESENT_CHANGE: ATTENTION follows the line, a READ in progress is discarded when the line falls, and nothing else
changes (R185, R195, R196). -/
def Obligations.HostPresentMovesAttention : Prop :=
  ∀ (level : Bool) (s : State), s.LinesHold →
    ∃ t, exec (.hostPresentChange level) s = .next t ∧ t.pins = { s.pins with hostPresent := level } ∧
      t.notices.attention = (s.notices.unmasked && level && (s.power.platform != .off)) ∧
      Kept [.pins, .attention, .answer] s t ∧ BytesKept [] s t ∧
      ((level = true ∨ s.NoRead) → t.port.answer = s.port.answer) ∧
      (level = false → ¬ s.NoRead → t.port.answer = none)

/-- READ: its status by length, address and care reset, and the words that are served at once, the first of them at least,
a byte beyond 0x1FFF reading zero; the READ stays in progress for the others (R170). A READ changes nothing but the answer
(and the model's counter of free values), but for MISUSE when its length is refused. The header words read as their owners' fields (R169, R171). That a READ held by a
care reset shows IDENT follows R171 and R186 (assumption log 22); how many words are served at once is free (assumption
logs 6 and 12). -/
def Obligations.ReadAnswers : Prop :=
  (∀ (addr : Addr) (length : BitVec 16) (s : State), s.LinesHold → s.pins.hostPresent = true →
    ∃ (t : State) (a : PortAnswer), exec (.read addr length) s = .next t ∧ t.port.answer = some a ∧
      Kept [.answer, .free, .news, .attention] s t ∧ BytesKept [] s t ∧
      if s.port.careReset then
        t.notices.news = s.notices.news ∧ ServedOn s true .held [] addr.toNat length.toNat a
      else if length.toNat = 0 ∨ 256 < length.toNat then
        t.notices.news = s.notices.news ||| newsMisuse ∧ a = .data .refused (List.replicate length.toNat 0)
      else if addr.toNat < 0x2000 then
        t.notices.news = s.notices.news ∧ ServedOn s true .ok [] addr.toNat length.toNat a
      else
        t.notices.news = s.notices.news ∧ a = .data .outOfRange (List.replicate length.toNat 0)) ∧
  ∀ s : State, s.notices.Ordered →
    s.peekWord 0x00 = 0x0F72 + 2 ^ 16 + flagBit 24 (!s.port.startUp && !s.port.careReset) + flagBit 25 s.port.careReset ∧
    s.peekWord 0x04 = 0 ∧ s.peekWord 0x08 = s.notices.news.toNat ∧ s.peekWord 0x0C = s.notices.mask.toNat ∧
    s.peekWord 0x10 = 0 ∧ s.peekWord 0x14 = s.notices.top ∧ s.peekWord 0x18 = s.notices.bottom ∧
    s.peekWord 0x1C = s.uptime ∧ ∀ a, 0x20 ≤ a → s.peek a = Memory.read s.port.memory a

/-- WRITE into the bulk buffers, where bytes beyond care memory are dropped, and into the kind, flags, tag and parameters
of an EMPTY slot: every byte is stored, and nothing else changes. One WRITE that fills an EMPTY slot and moves its owner
word to READY stores the fields, clears the answer area and joins the end of the intake list (R172, R178, R179). -/
def Obligations.WriteStoresIntoBuffers : Prop :=
  (∀ (addr : Addr) (data : List Byte) (s : State), s.LinesHold → s.PortOpen →
    0x1000 ≤ addr.toNat → addr.toNat < 0x2000 → 1 ≤ data.length → data.length ≤ 256 →
    ∃ t, exec (.write addr data) s = .next t ∧ t.port.answer = some (.status .ok) ∧
      (∀ i, i < data.length → addr.toNat + i < 0x2000 →
        Memory.read t.port.memory (addr.toNat + i) = data.getD i 0) ∧
      Kept [.answer] s t ∧ BytesKept [(addr.toNat, data.length)] s t) ∧
  ∀ (k : Nat) (addr : Addr) (data : List Byte) (s : State), s.LinesHold → s.PortOpen → k < 24 →
    s.slotOwner k = ownerEmpty →
    (slotBase k + 4 ≤ addr.toNat → addr.toNat + data.length ≤ slotBase k + 32 → 1 ≤ data.length →
      ∃ t, exec (.write addr data) s = .next t ∧ t.port.answer = some (.status .ok) ∧
        (∀ i, i < data.length → Memory.read t.port.memory (addr.toNat + i) = data.getD i 0) ∧
        Kept [.answer] s t ∧ BytesKept [(addr.toNat, data.length)] s t) ∧
    (addr.toNat = slotBase k → 4 ≤ data.length → data.length ≤ 64 → data.take 4 = leBytes 4 ownerReady →
      ∃ t, exec (.write addr data) s = .next t ∧ t.port.answer = some (.status .ok) ∧ t.slotOwner k = ownerReady ∧
        (∀ i, i < data.length → i < 32 → Memory.read t.port.memory (slotBase k + i) = data.getD i 0) ∧
        Memory.readBytes t.port.memory (slotBase k + 32) 32 = List.replicate 32 0 ∧
        t.port.intake = s.port.intake ++ [k] ∧ Kept [.answer, .intake] s t ∧
        BytesKept [(slotBase k, min 32 data.length), answerArea k] s t)

/-- WRITE is turned away whole: HELD in start-up and a care reset; REFUSED with MISUSE for a bad length, when it touches a
byte that no write may touch, or when it sets a bit of CARE_CONTROL other than RESET; OUT_OF_RANGE beyond care memory. No
byte is stored. A WRITE of zeros within CARE_CONTROL is performed and has no effect (R168, R169, R172, R176, R186). A bad
length is refused wherever the WRITE points (the model's choice, assumption log 47). -/
def Obligations.WriteTurnedAway : Prop :=
  ∀ (addr : Addr) (data : List Byte) (s : State), s.LinesHold → s.pins.hostPresent = true →
    (s.port.held = true →
      ∃ t, exec (.write addr data) s = .next t ∧ t.port.answer = some (.status .held) ∧ Kept [.answer] s t ∧
        BytesKept [] s t) ∧
    (s.port.held = false →
      (data.length = 0 ∨ 256 < data.length ∨
        ∃ i, i < data.length ∧ (s.Forbids (addr.toNat + i) ∨ BadControl (addr.toNat + i) (data.getD i 0))) →
      ∃ t, exec (.write addr data) s = .next t ∧ t.port.answer = some (.status .refused) ∧
        t.notices.news = s.notices.news ||| newsMisuse ∧ Kept [.answer, .news, .attention] s t ∧ BytesKept [] s t) ∧
    (s.port.held = false → 1 ≤ data.length → data.length ≤ 256 → 0x2000 ≤ addr.toNat →
      ∃ t, exec (.write addr data) s = .next t ∧ t.port.answer = some (.status .outOfRange) ∧ Kept [.answer] s t ∧
        BytesKept [] s t) ∧
    (s.port.held = false → 1 ≤ data.length → 4 ≤ addr.toNat → addr.toNat + data.length ≤ 8 → (∀ b ∈ data, b = 0) →
      ∃ t, exec (.write addr data) s = .next t ∧ t.port.answer = some (.status .ok) ∧ Kept [.answer] s t ∧
        BytesKept [] s t)

/-- EXCHANGE_IF_EQUAL, SET_BITS and CLEAR_BITS on a word of a bulk buffer, and on a word of the kind, flags, tag and
parameters of an EMPTY slot: the word's new value and the answer with the original and the flag; no other byte changes
(R172, R173, R174). -/
def Obligations.WordOperationsOnBuffers : Prop :=
  ∀ (addr : Addr) (value : Word) (s : State), s.LinesHold → s.PortOpen → addr.toNat % 4 = 0 →
    ((0x1000 ≤ addr.toNat ∧ addr.toNat < 0x2000) ∨
      (∃ k, k < 24 ∧ slotBase k + 4 ≤ addr.toNat ∧ addr.toNat < slotBase k + 32 ∧ s.slotOwner k = ownerEmpty)) →
    (∀ compare : Word, ∃ t, exec (.exchangeIfEqual addr compare value) s = .next t ∧
      t.wordAt addr.toNat = viaResult (.exchange compare) (s.wordAt addr.toNat) value ∧
      t.port.answer = some (viaAnswer (.exchange compare) (s.wordAt addr.toNat) value) ∧
      Kept [.answer] s t ∧ BytesKept [(addr.toNat, 4)] s t) ∧
    (∃ t, exec (.setBits addr value) s = .next t ∧
      t.wordAt addr.toNat = viaResult .setBits (s.wordAt addr.toNat) value ∧
      t.port.answer = some (viaAnswer .setBits (s.wordAt addr.toNat) value) ∧
      Kept [.answer] s t ∧ BytesKept [(addr.toNat, 4)] s t) ∧
    (∃ t, exec (.clearBits addr value) s = .next t ∧
      t.wordAt addr.toNat = viaResult .clearBits (s.wordAt addr.toNat) value ∧
      t.port.answer = some (viaAnswer .clearBits (s.wordAt addr.toNat) value) ∧
      Kept [.answer] s t ∧ BytesKept [(addr.toNat, 4)] s t)

/-- The word operations are turned away: HELD in start-up and a care reset, with an original that is free (assumption log
12); OUT_OF_RANGE beyond care memory; REFUSED with MISUSE for a misaligned address, for the operations that NEWS,
NEWS_FORCE and NOTICE_TOP do not take, on a word that no write may touch, and on CARE_CONTROL for a value with a bit other
than RESET; nothing is stored. An EXCHANGE_IF_EQUAL whose compare value differs from the word, a read-only word too
(assumption log 20), and an operation on CARE_CONTROL that leaves RESET clear, are performed and change nothing (R168, R169,
R172, R173, R174, R175, R176, R186). -/
def Obligations.WordOperationsTurnedAway : Prop :=
  ∀ (c : Instr) (addr : Addr) (v w : Word) (s : State), s.LinesHold → s.pins.hostPresent = true →
    (c = .exchangeIfEqual addr v w ∨ c = .setBits addr v ∨ c = .clearBits addr v) →
    (s.port.held = true →
      ∃ (t : State) (original : Word), exec c s = .next t ∧ t.port.answer = some (.word original false .held) ∧
        t.free = s.free + 1 ∧ Kept [.answer, .free] s t ∧ BytesKept [] s t) ∧
    (s.port.held = false →
    (0x2000 ≤ addr.toNat →
      ∃ t, exec c s = .next t ∧ t.port.answer = some (.word 0 false .outOfRange) ∧ Kept [.answer] s t ∧
        BytesKept [] s t) ∧
    (addr.toNat < 0x2000 → addr.toNat % 4 ≠ 0 →
      ∃ t, exec c s = .next t ∧ t.port.answer = some (.word 0 false .refused) ∧
        t.notices.news = s.notices.news ||| newsMisuse ∧ Kept [.answer, .news, .attention] s t ∧ BytesKept [] s t) ∧
    ((c = .exchangeIfEqual addr v w ∧ (addr = 0x08 ∨ addr = 0x10)) ∨ (c = .setBits addr v ∧ addr = 0x14) ∨
        (c = .clearBits addr v ∧ (addr = 0x08 ∨ addr = 0x10 ∨ addr = 0x14)) ∨
        (addr.toNat % 4 = 0 ∧ s.Forbids addr.toNat ∧
          (c = .exchangeIfEqual addr v w → BitVec.ofNat 32 (s.peekWord addr.toNat) = v)) ∨
        (addr = 0x04 ∧ ((c = .exchangeIfEqual addr v w ∧ v = 0 ∧ 1 < w.toNat) ∨ (c = .setBits addr v ∧ 1 < v.toNat))) →
      ∃ t, exec c s = .next t ∧ t.port.answer = some (.word (BitVec.ofNat 32 (s.peekWord addr.toNat)) false .refused) ∧
        t.notices.news = s.notices.news ||| newsMisuse ∧ Kept [.answer, .news, .attention] s t ∧ BytesKept [] s t) ∧
    (c = .exchangeIfEqual addr v w → addr.toNat < 0x2000 → addr.toNat % 4 = 0 → addr ≠ 0x08 → addr ≠ 0x10 →
      BitVec.ofNat 32 (s.peekWord addr.toNat) ≠ v →
      ∃ t, exec c s = .next t ∧ t.port.answer = some (.word (BitVec.ofNat 32 (s.peekWord addr.toNat)) false .ok) ∧
        Kept [.answer] s t ∧ BytesKept [] s t) ∧
    (addr = 0x04 →
      ((c = .exchangeIfEqual addr v w ∧ v = 0 ∧ w = 0) ∨ (c = .setBits addr v ∧ v = 0) ∨ c = .clearBits addr v) →
      ∃ t, exec c s = .next t ∧ t.port.answer = some (.word 0 (decide (c = .exchangeIfEqual addr v w)) .ok) ∧
        Kept [.answer] s t ∧ BytesKept [] s t))

/-- UNKNOWN_OPERATION: an operation byte that is none of the five codes is not performed; REFUSED with MISUSE, and HELD
with no news during start-up or a care reset (R202). -/
def Obligations.UnknownOperationRefused : Prop :=
  ∀ (op : Byte) (s : State), s.LinesHold → s.pins.hostPresent = true → (op.toNat = 0 ∨ 5 < op.toNat) →
    (s.port.held = false →
      ∃ t, exec (.unknownOperation op) s = .next t ∧ t.port.answer = some (.status .refused) ∧
        t.notices.news = s.notices.news ||| newsMisuse ∧ Kept [.answer, .news, .attention] s t ∧ BytesKept [] s t) ∧
    (s.port.held = true →
      ∃ t, exec (.unknownOperation op) s = .next t ∧ t.port.answer = some (.status .held) ∧ Kept [.answer] s t ∧
        BytesKept [] s t)

/-- A discarded frame performs nothing, returns no status and sets no news (R170); while HOST_PRESENT is low, every
frame of the host is ignored so (R185). -/
def Obligations.IgnoredFrames : Prop :=
  (∀ s : State, s.LinesHold →
    ∃ t, exec .frameDiscarded s = .next t ∧ t.port.answer = none ∧ Kept [.answer] s t ∧ BytesKept [] s t) ∧
  ∀ (c : Instr) (s : State), s.LinesHold → s.pins.hostPresent = false → IsFrame c →
    ∃ t, exec c s = .next t ∧ t.port.answer = none ∧ Kept [.answer] s t ∧ BytesKept [] s t

/-- NEWS_WRITE clears the news bits of the value or mask, NEWS_FORCE_WRITE sets them, and NEWS_MASK_WRITE stores a mask
by any operation; ATTENTION follows (R193, R194, R195). -/
def Obligations.NewsWordsWritten : Prop :=
  ∀ (value : Word) (s : State), s.LinesHold → s.PortOpen →
    (∀ via : Via, (via = .write ∨ via = .setBits) →
      (∃ t, exec (.newsWrite via value) s = .next t ∧
        t.notices.news = s.notices.news &&& ~~~(value.setWidth 8) ∧ t.notices.attention = t.attentionLevel ∧
        Kept [.answer, .news, .attention] s t ∧ BytesKept [] s t) ∧
      ∃ t, exec (.newsForceWrite via value) s = .next t ∧
        t.notices.news = s.notices.news ||| value.setWidth 8 ∧ t.notices.attention = t.attentionLevel ∧
        Kept [.answer, .news, .attention] s t ∧ BytesKept [] s t) ∧
    ∀ via : Via, ∃ t, exec (.newsMaskWrite via value) s = .next t ∧
      t.notices.mask = viaResult via s.notices.mask value ∧ t.notices.attention = t.attentionLevel ∧
      t.port.answer = some (viaAnswer via s.notices.mask value) ∧
      Kept [.answer, .mask, .attention] s t ∧ BytesKept [] s t

/-- NOTICE_TOP_WRITE: a value from the top to the bottom takes the entries before it off the list and appends deferred
notices, in first-deferral order, into the room, each written at its entry place; no other place changes. Any other value is
refused with MISUSE (R175, R190, R192). -/
def Obligations.NoticeTopWritten : Prop :=
  ∀ (via : Via) (value : Word) (s : State), s.LinesHold → s.PortOpen → s.notices.Ordered →
    (via = .write ∨ via = .exchange (BitVec.ofNat 32 s.notices.top)) →
    (value.toNat < 32 → (value.toNat + 32 - s.notices.top) % 32 ≤ s.notices.listed →
      let freed := (value.toNat + 32 - s.notices.top) % 32
      let appended := appendedFrom s.notices.counter (s.notices.deferred.take freed)
      let place := fun i : Nat => noticePlace ((s.notices.bottom + i) % 32)
      ∃ t, exec (.noticeTopWrite via value) s = .next t ∧ t.notices.top = value.toNat ∧
        t.notices.entries = s.notices.entries.drop freed ++ appended ∧
        t.notices.deferred = s.notices.deferred.drop freed ∧
        t.notices.counter = (s.notices.counter + appended.length) % 65536 ∧
        t.notices.bottom = (s.notices.bottom + appended.length) % 32 ∧
        t.notices.news = s.notices.news ||| (if appended = [] then 0 else newsNotice) ∧
        (∀ i, (h : i < appended.length) → Memory.readBytes t.port.memory (place i) 32 = noticeBytes appended[i]) ∧
        (s.ListShows → t.ListShows) ∧
        Kept [.answer, .noticeList, .news, .attention] s t ∧
        BytesKept ((List.range appended.length).map (fun i => (place i, 32))) s t) ∧
    (¬ (value.toNat < 32 ∧ (value.toNat + 32 - s.notices.top) % 32 ≤ s.notices.listed) →
      ∃ t, exec (.noticeTopWrite via value) s = .next t ∧ t.notices.news = s.notices.news ||| newsMisuse ∧
        Kept [.answer, .news, .attention] s t ∧ BytesKept [] s t)

/-- ARRIVAL and OWNER_WORD_EMPTY: the two moves of an owner word that the host may make, by every operation that makes
them; an arrival clears the answer area and joins the end of the intake list. By a WRITE or a word operation, a value
that the word already holds is performed and changes nothing, and any other change is refused with MISUSE (R172, R173,
R174, R176, R178, R179). -/
def Obligations.OwnerWordMoves : Prop :=
  ∀ (k : Nat) (s : State), s.LinesHold → s.PortOpen → k < 24 →
    (∀ via : Via, s.slotOwner k = ownerEmpty → (via = .write ∨ via = .exchange 0 ∨ via = .setBits) →
      ∃ t, exec (.arrival k via) s = .next t ∧ t.slotOwner k = ownerReady ∧
        Memory.readBytes t.port.memory (slotBase k + 32) 32 = List.replicate 32 0 ∧
        t.port.intake = s.port.intake ++ [k] ∧ t.port.answer = some (viaAnswer via 0 1) ∧
        Kept [.answer, .intake] s t ∧ BytesKept [ownerArea k, answerArea k] s t) ∧
    (∀ via : Via, s.slotOwner k = ownerAnswered → (via = .write ∨ via = .exchange 3 ∨ via = .clearBits) →
      ∃ t, exec (.ownerWordEmpty k via) s = .next t ∧ t.slotOwner k = ownerEmpty ∧
        Kept [.answer] s t ∧ BytesKept [ownerArea k] s t) ∧
    ∀ (addr : Addr) (value : Word) (via : Via), addr.toNat = slotBase k →
      let before : Word := BitVec.ofNat 32 (s.slotOwner k)
      let after := viaResult via before value
      (after = before →
        ∃ t, exec (hostOp addr value via) s = .next t ∧ t.port.answer = some (viaAnswer via before value) ∧
          Kept [.answer] s t ∧ BytesKept [] s t) ∧
      (after ≠ before → ¬ (s.slotOwner k = ownerEmpty ∧ after.toNat = ownerReady) →
        ¬ (s.slotOwner k = ownerAnswered ∧ after.toNat = ownerEmpty) →
        ∃ t, exec (hostOp addr value via) s = .next t ∧ t.port.answer = some (viaRefusal via before) ∧
          t.notices.news = s.notices.news ||| newsMisuse ∧ Kept [.answer, .news, .attention] s t ∧ BytesKept [] s t)

/-! ### Resets -/

/-- POWER_ON_RESET: the values that every block takes, by the levels of its pins; NEWS holds BAY when a pack is seated, and
is else zero; care memory is zero but for the sections of bays that have seen a contact; the nonvolatile copy alone is
kept (R2, R27, R46, R70, R95, R107, R132, R158, R168, R188, R197, R201). -/
def Obligations.PowerOnResetValues : Prop :=
  ∀ (pins : PinLevels) (s : State), ∃ t, exec (.powerOnReset pins) s = .next t ∧
    t.clock = 0 ∧ t.pins = pins ∧ t.port.startUp = true ∧ t.port.careReset = false ∧ t.port.intake = [] ∧
    t.port.acceptance = List.replicate 24 0 ∧
    t.notices.list = (0, 0, [], 1, []) ∧ t.notices.mask = 0 ∧ t.LinesHold ∧
    t.notices.news = (if pins.a.contact = true ∨ pins.b.contact = true then newsBay else 0) ∧
    (∀ b : Bay, let p := t.bayPins b
      t.bay b = { BayContext.powerOn with
        state := if p.contact then .seating else .vacant
        seatingTimer := if p.contact then some (ms 200) else none
        latch := if p.latch = .closed then .closed else .closing
        latchTimer := if p.latch = .closed then none else some (ms 400)
        releaseWait := p.button }) ∧
    t.swap = none ∧ t.swapWindow = 30 ∧
    t.link.state = .idle ∧ t.link.waiting = [] ∧ t.link.inFlight = none ∧ t.link.resetTimer = none ∧
    t.power = { State.reset.power with
      debounce := if pins.dcPresent then some { timer := ms 50, level := true } else none } ∧
    t.holds.entries = [] ∧ t.bright = State.reset.bright ∧ t.drop = State.reset.drop ∧ t.impact = State.reset.impact ∧
    t.settings.copy = s.settings.copy ∧ t.settings.state = .loading ∧ t.settings.save = none ∧
    (∀ a, (∀ b : Bay, (t.bayPins b).contact = true → a < (bayArea b).1 ∨ (bayArea b).1 + 80 ≤ a) →
      Memory.read t.port.memory a = 0) ∧
    Kept [.clock, .pins, .startUp, .careReset, .acceptance, .intake, .answer, .noticeList, .news, .mask, .attention, .bay .a,
      .bay .b, .swap, .swapWindow, .link, .power, .hibernate, .holds, .storageGuard, .bright, .drop, .impact,
      .settings] s t

/-- STARTUP_END and CARE_RESET_END: the load ends with its values, its notice and news SETTINGS; the port takes writes
again, and every live page section shows its block, the drop monitor's too; a care reset's end writes all 32 places of the
notice list and all 16 of the impact store too, each showing its entry or record, or zeros (R167, R187, R189, R198,
R201). What the load reads is fixed when it begins (the model's choice, assumption log 10). -/
def Obligations.LoadsEnd : Prop :=
  ∀ s : State, s.LinesHold → s.Shaped →
    (s.port.startUp = true → s.port.careReset = false →
      ∃ t, exec .startupEnd s = .next t ∧ t.port.startUp = false ∧ LoadEnded s t ∧ t.PageShows ∧
        Shows t.port.memory dropArea (dropBody t.drop) ∧
        Kept (.startUp :: loadParts) s t ∧ BytesKept [liveArea, noticeArea s] s t) ∧
    (s.port.careReset = true → s.notices.Ordered →
      ∃ t, exec .careResetEnd s = .next t ∧ t.port.careReset = false ∧ LoadEnded s t ∧ t.PageShows ∧
        Shows t.port.memory dropArea (dropBody t.drop) ∧
        (∀ i, i < 32 → Memory.readBytes t.port.memory (noticePlace i) 32 =
          match t.notices.entries[(i + 32 - t.notices.top) % 32]? with
          | some n => noticeBytes n
          | none => List.replicate 32 0) ∧
        (∀ i, i < 16 → Memory.readBytes t.port.memory (placeBase i + 4) 60 =
          padTo 60 (placeBody (s.impact.places.getD i none))) ∧
        Kept (.careReset :: loadParts) s t ∧ BytesKept [liveArea, (0x0800, 1024), impactArea] s t)

/-- CARE_RESET: by each operation that sets RESET, every slot is zero and EMPTY with its acceptance number kept, the
intake list, the notice list, the deferred set, NEWS and NEWS_MASK are emptied with the counter kept, SOFTWARE hold
entries go, QUERY jobs go or are marked, requesters are forgotten, and the reload begins (R44, R92, R95, R132, R169,
R186, R189, R198). What the reload reads is fixed as it begins (the model's choice, assumption log 10). That the bit BAY
of a swap context which changes in the same operation may stand in the emptied NEWS is the model's choice too (assumption
log 37). -/
def Obligations.CareResetStarts : Prop :=
  ∀ (via : Via) (s : State), s.LinesHold → s.Shaped → s.PortOpen → (via = .write ∨ via = .exchange 0 ∨ via = .setBits) →
    ∃ t, exec (.careReset via) s = .next t ∧ t.port.careReset = true ∧ t.port.intake = [] ∧
      (∀ a, 0x0200 ≤ a → a < 0x0800 → Memory.read t.port.memory a = 0) ∧
      t.notices.list = (0, 0, [], s.notices.counter, []) ∧ t.notices.mask = 0 ∧ t.notices.attention = false ∧
      (t.notices.news = 0 ∨ t.notices.news = newsBay) ∧
      t.swap = (match s.swap with
        | some w => some { w with requester := match w.requester with
            | .slot _ _ => .nobody
            | r => r }
        | none => none) ∧
      t.link = { s.link with
        waiting := s.link.waiting.filter (fun j => !j.work.isQuery)
        inFlight := match s.link.inFlight with
          | some x => some { x with discard := x.discard || x.job.work.isQuery }
          | none => none } ∧
      t.holds.entries = s.holds.entries.filter (fun e => decide (e.owner ≠ .software)) ∧
      t.bright = { s.bright with frozen := t.holds.inForce .brightFreeze } ∧
      t.drop = { s.drop with starting := match s.drop.starting with
        | some g => some { g with slot := none }
        | none => none } ∧
      t.settings.state = (if s.settings.save.isSome then .saving else .loading) ∧
      t.settings.load = some (match s.settings.save with
        | some v => v.image
        | none => s.settings.copy) ∧
      t.settings.copy = s.settings.copy ∧ t.settings.save = s.settings.save ∧
      Kept [.careReset, .intake, .answer, .noticeList, .news, .mask, .attention, .swap, .link, .holds, .bright, .drop,
        .settings] s t ∧ BytesKept [slotsArea] s t

/-! ### Requests: settings -/

/-- UNKNOWN_KIND: a kind code out of the table is refused BAD_KIND; a flags byte with another bit than NO_NEWS is
refused BAD_PARAM, by this command and by the one of each known kind (R180). -/
def Obligations.UnknownKindRefused : Prop :=
  ∀ (k : Nat) (s : State), s.LinesHold → s.oldest = some k → k < 24 →
    let data := [byte (s.slotKind k), byte (s.slotFlags k)]
    ((s.slotKind k = 0 ∨ 18 < s.slotKind k) →
      ∃ t, exec .unknownKind s = .next t ∧ t.notices.news = s.notices.news ||| s.answerNews k ∧
        AnsweredBut [] [] s t k .refused .badKind data) ∧
    (1 ≤ s.slotKind k → s.slotKind k ≤ 18 → 2 ≤ s.slotFlags k →
      (∃ t, exec .unknownKind s = .next t ∧ t.notices.news = s.notices.news ||| s.answerNews k ∧
        AnsweredBut [] [] s t k .refused .badParam data) ∧
      ∀ (c : Instr) (kind : Nat), (c, kind) ∈ [(.bayRelease, 1), (.cancel, 2), (.packQuery, 3), (.bayRecheck, 4),
          (.setCharge, 5), (.setCurve, 6), (.setBrightness, 7), (.setDisplay, 8), (.setDrop, 9), (.setSwap, 10),
          (.hold, 11), (.unhold, 12), (.pinImpact, 13), (.unpinImpact, 14), (.clearImpacts, 15), (.setPlatform, 16),
          (.saveSettings, 17), (.packLinkPortReset, 18), (.sensorPortReset, 18)] →
        s.slotKind k = kind →
        ∃ t, exec c s = .next t ∧ t.notices.news = s.notices.news ||| s.answerNews k ∧
          AnsweredBut [] [] s t k .refused .badParam data)

/-- SET_SWAP stores the clamped removal window; SET_CHARGE stores a bay's charge enable and clamped limit, or is
refused BAD_PARAM (R26, R93). The zero answer data of the refusal is the model's choice (assumption log 13). -/
def Obligations.SwapAndChargeSettings : Prop :=
  ∀ (k : Nat) (s : State), s.LinesHold →
    (s.Takes k 10 →
      ∃ t, exec .setSwap s = .next t ∧ t.swapWindow = clamp 5 120 (s.param k 0 2) ∧
        t.notices.news = s.notices.news ||| s.answerNews k ∧
        AnsweredBut [.swapWindow] [] s t k .done .none (leBytes 2 (clamp 5 120 (s.param k 0 2)))) ∧
    (s.Takes k 5 → (1 < s.param k 0 1 ∨ 1 < s.param k 1 1) →
      ∃ t, exec .setCharge s = .next t ∧ t.notices.news = s.notices.news ||| s.answerNews k ∧
        AnsweredBut [] [] s t k .refused .badParam []) ∧
    (s.Takes k 5 → ∀ b : Bay, s.param k 0 1 = bayCode b → s.param k 1 1 ≤ 1 →
      ∃ t, exec .setCharge s = .next t ∧
        t.bay b = { s.bay b with
          chargeEnable := decide (s.param k 1 1 = 1), chargeLimit := clamp 50 100 (s.param k 2 1) } ∧
        t.notices.news = s.notices.news ||| s.answerNews k ∧
        AnsweredBut [.bay b] [bayArea b] s t k .done .none
          [byte (s.param k 1 1), byte (clamp 50 100 (s.param k 2 1))])

/-- SET_DROP stores the five clamped thresholds and answers them with the strike threshold in use; SET_BRIGHTNESS
stores the mode, the clamped offset and the clamped manual level, or is refused BAD_PARAM (R126, R133, R134). The zero
answer data of the refusal is the model's choice (assumption log 13). -/
def Obligations.DropAndBrightnessSettings : Prop :=
  ∀ (k : Nat) (s : State), s.LinesHold →
    (s.Takes k 9 →
      let h : Thresholds :=
        { freeFall := clamp 200 600 (s.param k 0 2), run := clamp 32 256 (s.param k 2 2)
          impact := clamp 2000 8000 (s.param k 4 2), strike := clamp 4000 15000 (s.param k 6 2)
          settle := clamp 200 2000 (s.param k 8 2) }
      ∃ t, exec .setDrop s = .next t ∧ t.drop = { s.drop with thresholds := h } ∧
        t.notices.news = s.notices.news ||| s.answerNews k ∧
        AnsweredBut [.drop] [dropArea] s t k .done .none
          (leBytes 2 h.freeFall ++ leBytes 2 h.run ++ leBytes 2 h.impact ++ leBytes 2 h.strike ++ leBytes 2 h.settle ++
            leBytes 2 (max h.strike h.impact))) ∧
    (s.Takes k 7 → 2 < s.param k 0 1 →
      ∃ t, exec .setBrightness s = .next t ∧ t.notices.news = s.notices.news ||| s.answerNews k ∧
        AnsweredBut [] [] s t k .refused .badParam []) ∧
    (s.Takes k 7 → ∀ m : BrightMode, s.param k 0 1 = brightModeCode m →
      ∃ t, exec .setBrightness s = .next t ∧
        t.bright = { s.bright with
          mode := m, offset := clampInt (-50) 50 (s.offsetParam k), manual := clamp 20 1400 (s.param k 2 2) } ∧
        t.notices.news = s.notices.news ||| s.answerNews k ∧
        AnsweredBut [.bright] [brightArea] s t k .done .none
          ([byte (brightModeCode m)] ++ leSigned 1 (clampInt (-50) 50 (s.offsetParam k)) ++
            leBytes 2 (clamp 20 1400 (s.param k 2 2))))

/-- SET_DISPLAY and SET_PLATFORM: the setting or the state is taken, the display follows both, and a change of the
platform state moves STORAGE_GUARD and HIBERNATE_REQUEST and sets news POWER; other values are refused BAD_PARAM (R61,
R62, R63, R103, R121, R122, R123). A SET_DISPLAY of the setting already held changes nothing but its slot, and that it
rewrites no section is the model's choice (assumption log 7). The zero answer data of the refusals is the model's choice
too (assumption log 13). -/
def Obligations.DisplayAndPlatform : Prop :=
  ∀ (k : Nat) (s : State), s.LinesHold →
    (s.Takes k 8 → 1 < s.param k 0 1 →
      ∃ t, exec .setDisplay s = .next t ∧ t.notices.news = s.notices.news ||| s.answerNews k ∧
        AnsweredBut [] [] s t k .refused .badParam []) ∧
    (s.Takes k 8 → s.param k 0 1 ≤ 1 →
      ∃ t, exec .setDisplay s = .next t ∧
        t.bright = displayed s.bright (decide (s.param k 0 1 = 1)) s.power.platform ∧
        t.notices.news = s.notices.news ||| s.answerNews k ∧
        (let data := [byte (s.param k 0 1), byte (if s.param k 0 1 = 1 ∧ s.power.platform = .run then 1 else 0),
            byte (platformCode s.power.platform)]
         AnsweredBut [.bright] [brightArea] s t k .done .none data ∧
          (s.DisplayAgrees → decide (s.param k 0 1 = 1) = s.bright.displaySetting →
            AnsweredBut [] [] s t k .done .none data))) ∧
    (s.Takes k 16 → 2 < s.param k 0 1 →
      ∃ t, exec .setPlatform s = .next t ∧ t.notices.news = s.notices.news ||| s.answerNews k ∧
        AnsweredBut [] [] s t k .refused .badParam []) ∧
    (s.Takes k 16 → s.DisplayAgrees →
      ∀ p : Platform, s.param k 0 1 = platformCode p →
      ∃ t, exec .setPlatform s = .next t ∧
        t.power = { s.power with platform := p, hibernate := s.power.critical && (p != .off) } ∧
        t.holds.storageGuard = (s.holds.inForce .storage && (p != .off)) ∧
        t.bright = displayed s.bright s.bright.displaySetting p ∧
        t.notices.news = s.notices.news ||| s.answerNews k ||| (if p = s.power.platform then 0 else newsPower) ∧
        AnsweredBut [.power, .hibernate, .storageGuard, .bright] [sourcesArea, holdArea, brightArea] s t k .done .none
          [byte (platformCode s.power.platform), byte (platformCode p)])

/-- SET_CURVE: the table of the bulk buffer is clamped, its count and its order are checked, and it replaces the curve
whole or is refused with the point count and the first point out of order (R127). The zero answer data of the refusal for
a buffer above 15 is the model's choice (assumption log 13). -/
def Obligations.CurveSetting : Prop :=
  ∀ (k : Nat) (s : State), s.LinesHold → s.Takes k 6 →
    let n := s.bufferCount (s.param k 0 1)
    let points := (bufferPoints s.port.memory (bulkBase (s.param k 0 1)) n).map clampedPoint
    (15 < s.param k 0 1 →
      ∃ t, exec .setCurve s = .next t ∧ t.notices.news = s.notices.news ||| s.answerNews k ∧
        AnsweredBut [] [] s t k .refused .badParam []) ∧
    (s.param k 0 1 ≤ 15 → (n < 2 ∨ 12 < n) →
      ∃ t, exec .setCurve s = .next t ∧ t.notices.news = s.notices.news ||| s.answerNews k ∧
        AnsweredBut [] [] s t k .refused .badParam [byte n]) ∧
    (s.param k 0 1 ≤ 15 → 2 ≤ n → n ≤ 12 → ∀ i : Fin 12, i.val < n → RisingTo points i.val → ¬ RisingTo points (i.val + 1) →
      ∃ t, exec .setCurve s = .next t ∧ t.notices.news = s.notices.news ||| s.answerNews k ∧
        AnsweredBut [] [] s t k .refused .badParam [byte n, byte (i.val + 1)]) ∧
    (s.param k 0 1 ≤ 15 → 2 ≤ n → n ≤ 12 → RisingTo points n →
      ∃ t, exec .setCurve s = .next t ∧ t.bright = { s.bright with curve := points } ∧
        t.notices.news = s.notices.news ||| s.answerNews k ∧
        AnsweredBut [.bright] [brightArea] s t k .done .none
          [byte n, byte (clampedValues (bufferPoints s.port.memory (bulkBase (s.param k 0 1)) n))])

/-! ### Requests: holds, impacts, saves -/

/-- HOLD: a kind that SOFTWARE may not hold is refused BAD_PARAM; otherwise the SOFTWARE entry is renewed in its place
or appended, with its expiry by the clamped duration, and is answered with the counts. A latch kind that enters force
finds here a latch that is neither OPENING nor OPEN, and no release of its bay but one in RELATCHING, which it leaves as
it is; HoldStopsRelease has the other releases (R89, R94, R96, R98, R102, R104). The zero answer data of the refusal is
the model's choice (assumption log 13). -/
def Obligations.HoldPlaces : Prop :=
  ∀ (k : Nat) (s : State), s.LinesHold → s.Shaped → s.Takes k 11 →
    ((s.param k 0 1 = 2 ∨ 3 < s.param k 0 1) →
      ∃ t, exec .hold s = .next t ∧ t.notices.news = s.notices.news ||| s.answerNews k ∧
        AnsweredBut [] [] s t k .refused .badParam []) ∧
    (∀ kind : HoldKind, kind ≠ .storage → s.param k 0 1 = holdKindCode kind →
      (∀ b : Bay, kind = .latch b → s.holds.inForce kind = false →
        (s.bay b).latch ≠ .opening ∧ (s.bay b).latch ≠ .opened ∧
          ∀ w : SwapContext, s.swap = some w → w.bay = b → w.phase = .relatching) →
      let d := min 3600 (s.param k 2 2)
      let expiry : Option Instant := if d = 0 then none else some (s.clock + ms (1000 * d))
      ∃ t, exec .hold s = .next t ∧
        t.holds.entries = (if s.holds.holds kind .software then
            s.holds.entries.map (fun e => if e.kind = kind ∧ e.owner = .software then { e with expiry := expiry } else e)
          else s.holds.entries ++ [{ kind := kind, owner := .software, expiry := expiry, created := s.uptime }]) ∧
        t.bright = { s.bright with frozen := s.bright.frozen || decide (kind = .brightFreeze) } ∧
        t.notices.news = s.notices.news ||| s.answerNews k ∧
        AnsweredBut [.holds, .bright] [holdArea, brightArea] s t k .done .none
          ([byte (holdKindCode kind), byte (if s.holds.holds kind .software then 0 else 1), byte (t.holds.count kind),
            byte t.holds.entries.length] ++ leBytes 2 d ++ [0, 0] ++
            leBytes 4 (if d = 0 then 0 else uptimeOf (s.clock + ms (1000 * d)))))

/-- A HOLD that brings a bay's latch kind into force while that bay is released and not yet in RELATCHING: the latch,
OPENING or OPEN, is driven closed, one CLOSING goes on, and the release relatches with its end fixed as GUARDED; with the
latch CLOSED, as in SWITCHING, or STUCK, the release ends at once ABORTED GUARDED with the bay ONLINE (R20, R73, R83, R84,
R85, R89, R96, R97, R98, R102). HoldPlaces has a release in RELATCHING. The answer's bay and latch states are those after
the end (assumption log 14). A latch reversed while its sensor reads closed waits for the sensor's next change (assumption
log 42). -/
def Obligations.HoldStopsRelease : Prop :=
  ∀ (k : Nat) (b : Bay) (s : State), s.LinesHold → s.Takes k 11 → s.param k 0 1 = holdKindCode (.latch b) →
    s.holds.inForce (.latch b) = false → ∀ w : SwapContext, s.swap = some w → w.bay = b → w.phase ≠ .relatching →
    (¬ s.latchedFor w →
    ∃ t, exec .hold s = .next t ∧
      t.swap = some { w with
        phase := .relatching, switchingTimer := none, windowTimer := none, cancelRequested := false
        abortReason := some .guarded } ∧
      t.bay b = drivenClosedAt (s.bay b) s.clock ∧
      t.holds.inForce (.latch b) = true ∧ t.Answered k .done .none
        ([byte (holdKindCode (.latch b)), 1, byte (t.holds.count (.latch b)), byte t.holds.entries.length] ++
          leBytes 2 (min 3600 (s.param k 2 2)) ++ [0, 0] ++
          leBytes 4 (if s.param k 2 2 = 0 then 0 else uptimeOf (s.clock + ms (1000 * min 3600 (s.param k 2 2))))) ∧
      Kept [.holds, .swap, .bay b, .news, .attention, .intake] s t ∧
      BytesKept ([holdArea, bayArea .a, bayArea .b] ++ answerAreas k) s t) ∧
    (s.latchedFor w → s.ReleaseAgrees → s.link.Agrees → s.slotOwner k = ownerReady →
      (∀ q n : Nat, w.requester = .slot q n → q < 24) →
      let ended : SwapContext := { w with
        phase := .relatching, switchingTimer := none, windowTimer := none, cancelRequested := false
        abortReason := some .guarded }
      let d := min 3600 (s.param k 2 2)
      let expiry : Option Instant := if d = 0 then none else some (s.clock + ms (1000 * d))
      ∃ t, exec .hold s = .next t ∧ t.swap = none ∧ t.bay b = onlineAgain (s.bay b) s.clock ∧ PollJoined s t b ∧
        t.holds.entries = withoutSwap w s.holds.entries ++
          [{ kind := .latch b, owner := .software, expiry := expiry, created := s.uptime }] ∧
        EndReported s t ended (.aborted .guarded) [] ∧
        t.Answered k .done .none
          ([byte (holdKindCode (.latch b)), 1, byte (t.holds.count (.latch b)), byte t.holds.entries.length] ++
            leBytes 2 d ++ [0, 0] ++ leBytes 4 (if d = 0 then 0 else uptimeOf (s.clock + ms (1000 * d)))) ∧
        t.notices.news = s.notices.news ||| newsBay ||| s.answerNews k ||| s.endBits w |||
          s.postBits (endPosts ended (s.serial b) (.aborted .guarded) false).length ∧
        Kept [.holds, .swap, .bay b, .link, .noticeList, .news, .attention, .intake] s t ∧
        BytesKept ([holdArea, bayArea .a, bayArea .b] ++ answerAreas k ++ endAreas w) s t)

/-- UNHOLD removes the SOFTWARE entry of a kind and no other, and HOLD_EXPIRY does so when its timer runs out; a freeze
ends with the last entry of BRIGHT_FREEZE (R97, R99, R100, R104). The clock's move to the deadline and the zero answer
data of the refusal are the model's choices (assumption log 1, 13). -/
def Obligations.SoftwareEntriesLeave : Prop :=
  ∀ s : State, s.LinesHold → s.Shaped →
    (∀ k : Nat, s.Takes k 12 → (s.param k 0 1 = 2 ∨ 3 < s.param k 0 1) →
      ∃ t, exec .unhold s = .next t ∧ t.notices.news = s.notices.news ||| s.answerNews k ∧
        AnsweredBut [] [] s t k .refused .badParam []) ∧
    ∀ kind : HoldKind, kind ≠ .storage →
      let left := s.holds.entries.filter (fun e => !decide (e.kind = kind ∧ e.owner = .software))
      (∀ k : Nat, s.Takes k 12 → s.param k 0 1 = holdKindCode kind →
        ∃ t, exec .unhold s = .next t ∧ t.holds.entries = left ∧
          t.bright = { s.bright with frozen := t.holds.inForce .brightFreeze } ∧
          t.notices.news = s.notices.news ||| s.answerNews k ∧
          AnsweredBut [.holds, .bright] [holdArea, brightArea] s t k .done .none
            [byte (holdKindCode kind), byte (if s.holds.holds kind .software then 1 else 0), byte (t.holds.count kind),
              byte left.length]) ∧
      (∀ till : Instant, s.holds.softwareExpiry kind = some till →
        ∃ t, exec (.holdExpiry kind) s = .next t ∧ t.clock = max s.clock till ∧ t.holds.entries = left ∧
          t.bright = { s.bright with frozen := t.holds.inForce .brightFreeze } ∧
          Kept [.clock, .holds, .bright] s t ∧ BytesKept [holdArea, brightArea] s t)

/-- PIN_IMPACT, UNPIN_IMPACT and CLEAR_IMPACTS: the checks in order, the marks, the records that leave, the counts
that the answers carry, and the write counts of the places, which are rewritten where they change (R164, R165, R166,
R167). -/
def Obligations.ImpactRequests : Prop :=
  ∀ (k : Nat) (s : State), s.LinesHold → s.Shaped →
    let q := s.param k 0 4
    let marked := fun (p : Bool) (u : ImpactStore) =>
      ({ u with places := u.places.map (fun r => match r with
        | some r => some (if r.sequence = q then { r with pinned := p } else r)
        | none => none) } : ImpactStore)
    let data := fun (u : ImpactStore) (changed pinned : Nat) =>
      [byte u.recordCount, byte u.pinnedCount, byte u.openCount, byte changed, byte pinned, 0, 0, 0] ++ leBytes 4 q
    (s.Takes k 13 →
      (s.impact.record q = none →
        ∃ t, exec .pinImpact s = .next t ∧ t.notices.news = s.notices.news ||| s.answerNews k ∧
          AnsweredBut [] [] s t k .refused .notFound (data s.impact 0 0)) ∧
      ∀ r : ImpactRecord, s.impact.record q = some r →
        if r.pinned then
          ∃ t, exec .pinImpact s = .next t ∧ t.notices.news = s.notices.news ||| s.answerNews k ∧
            AnsweredBut [] [] s t k .done .none (data s.impact 0 1)
        else if 12 ≤ s.impact.pinnedCount then
          ∃ t, exec .pinImpact s = .next t ∧ t.notices.news = s.notices.news ||| s.answerNews k ∧
            AnsweredBut [] [] s t k .refused .pinLimit (data s.impact 0 0)
        else
          ∃ t, exec .pinImpact s = .next t ∧ t.impact = marked true s.impact ∧
            t.notices.news = s.notices.news ||| s.answerNews k ∧
            PlacesRewritten s t (fun r => if r.sequence = q then 1 else 0) ∧
            AnsweredBut [.impact] [impactArea] s t k .done .none (data t.impact 1 1)) ∧
    (s.Takes k 14 →
      (s.impact.record q = none →
        ∃ t, exec .unpinImpact s = .next t ∧ t.notices.news = s.notices.news ||| s.answerNews k ∧
          AnsweredBut [] [] s t k .refused .notFound (data s.impact 0 0)) ∧
      ∀ r : ImpactRecord, s.impact.record q = some r →
        ∃ t, exec .unpinImpact s = .next t ∧ t.impact = marked false s.impact ∧
          t.notices.news = s.notices.news ||| s.answerNews k ∧
          PlacesRewritten s t (fun r => if r.sequence = q ∧ r.pinned = true then 1 else 0) ∧
          AnsweredBut [.impact] [impactArea] s t k .done .none (data t.impact (if r.pinned then 1 else 0) 0)) ∧
    (s.Takes k 15 →
      ∃ t, exec .clearImpacts s = .next t ∧
        t.impact = { s.impact with places := s.impact.places.map (fun r => r.filter (fun r => r.pinned || r.isOpen)) } ∧
        t.notices.news = s.notices.news ||| s.answerNews k ∧
        PlacesRewritten s t (fun r => if r.pinned = true ∨ r.isOpen = true then 0 else 1) ∧
        AnsweredBut [.impact] [impactArea] s t k .done .none
          [byte t.impact.recordCount, byte t.impact.pinnedCount, byte t.impact.openCount,
            byte (s.impact.recordCount - t.impact.recordCount)])

/-- SAVE_SETTINGS in IDLE is accepted: the image of the working values, with signature 0xA7C1 and count 4, the copy's
signature invalid, the 40 ms timer; in any other store state it is refused BUSY. SAVE_TIMER_EXPIRY writes the image
whole, or leaves the signature invalid, and answers a slot that is still ACCEPTED by this acceptance (R182, R199,
R200). A save that stops has written the regions before the one that failed, whose own contents are free (assumption log
12). The clock's move to the deadline, the invalid signature, held as 0, the zero answer data of the BUSY refusal, and the
region alone in an ABORTED answer are the model's choices (assumption log 1, 11, 13, 44). -/
def Obligations.SettingsAreSaved : Prop :=
  ∀ (k : Nat) (s : State), s.LinesHold → s.Shaped →
    (s.Takes k 17 → s.settings.state ≠ .idle →
      ∃ t, exec .saveSettings s = .next t ∧ t.notices.news = s.notices.news ||| s.answerNews k ∧
        AnsweredBut [] [] s t k .refused .busy []) ∧
    (s.Takes k 17 → s.settings.state = .idle →
      ∃ t, exec .saveSettings s = .next t ∧ AcceptedBy s t k ∧ t.settings.state = .saving ∧
        t.settings.copy = { s.settings.copy with signature := 0 } ∧
        (∃ v, t.settings.save = some v ∧ v.slot = k ∧ v.acceptance = s.acceptanceOf k + 1 ∧
          v.timer = s.clock + ms 40 ∧ v.acceptedAt = s.uptime ∧
          v.image.signature = 0xA7C1 ∧ v.image.regionCount = 4 ∧ v.image.points = s.bright.curve ∧
          v.image.pointCount = s.bright.curve.length ∧ v.image.mode = brightModeCode s.bright.mode ∧
          v.image.offset = s.bright.offset ∧ v.image.manual = s.bright.manual ∧
          v.image.thresholds = s.drop.thresholds ∧ v.image.window = s.swapWindow ∧
          v.image.enableA = (if s.bayA.chargeEnable then 1 else 0) ∧ v.image.limitA = s.bayA.chargeLimit ∧
          v.image.enableB = (if s.bayB.chargeEnable then 1 else 0) ∧ v.image.limitB = s.bayB.chargeLimit) ∧
        t.settings.load = s.settings.load ∧
        Kept [.intake, .acceptance, .settings] s t ∧ BytesKept [ownerArea k] s t) ∧
    ∀ (failed : Option (Fin 4)) (v : SaveInFlight), s.settings.save = some v → v.slot < 24 →
      ∃ t, exec (.saveTimerExpiry failed) s = .next t ∧ t.clock = max s.clock v.timer ∧ t.settings.state = .idle ∧
        t.settings.save = none ∧ t.settings.load = s.settings.load ∧
        (failed = none → t.settings.copy = v.image ∧ t.free = s.free) ∧
        (∀ r : Fin 4, failed = some r → StoppedAt s.settings.copy v.image t.settings.copy r ∧ t.free = s.free + 1) ∧
        Kept [.clock, .settings, .free, .news, .attention] s t ∧
        if s.slotOwner v.slot = ownerAccepted ∧ s.acceptanceOf v.slot = v.acceptance then
          t.notices.news = s.notices.news ||| s.answerNews v.slot ||| newsSettings ∧
            (failed = none → t.Answered v.slot .done .none ([4, 0, 0, 0] ++ leBytes 4 v.acceptedAt)) ∧
            (∀ r : Fin 4, failed = some r → t.Answered v.slot .aborted .storeFault [byte r.val]) ∧
            BytesKept (answerAreas v.slot) s t
        else t.notices.news = s.notices.news ||| newsSettings ∧ BytesKept [] s t

/-! ### Requests: packs and ports -/

/-- PACK_QUERY: the checks in order, each with its refusal; a query that passes is ACCEPTED and joins as a QUERY job. The
end of its read places a good region in the bulk buffer, fills the rest with zeros and answers DONE, or answers ABORTED
with LINK_ERROR; a query that a care reset has discarded answers nothing (R28, R30, R31, R32, R33, R38, R39, R44, R182).
The clock's move to the deadline and the zero answer data of the refusals are the model's choices (assumption log 1,
13). -/
def Obligations.PackQueryTaken : Prop :=
  (∀ (k : Nat) (s : State), s.LinesHold → s.Shaped → s.link.Agrees → s.Takes k 3 →
    let region := s.param k 1 1
    let refused := fun (r : Reason) =>
      ∃ t, exec .packQuery s = .next t ∧ t.notices.news = s.notices.news ||| s.answerNews k ∧
        AnsweredBut [] [] s t k .refused r []
    ((1 < s.param k 0 1 ∨ 3 < region ∨ 15 < s.param k 2 1) → refused .badParam) ∧
    ∀ b : Bay, s.param k 0 1 = bayCode b → region ≤ 3 → s.param k 2 1 ≤ 15 →
      let c := s.bay b
      let queries := (s.link.jobs.filter (fun j => j.work.isQuery)).length
      if c.state = .vacant then refused .noPack
      else if c.state ≠ .online ∧ c.state ≠ .releasing ∧ c.state ≠ .barred then refused .badState
      else if region ≠ 0 ∧ (match c.descriptor with
          | some d => d.regionCount
          | none => 0) ≤ region then refused .badParam
      else if 4 ≤ queries then refused .full
      else if s.link.state = .resetting then refused .busy
      else
        ∃ t, exec .packQuery s = .next t ∧ AcceptedBy s t k ∧
          Joined s t b (.query k (s.acceptanceOf k + 1) region (s.param k 2 1)) ∧
          Kept [.intake, .acceptance, .link] s t ∧ BytesKept [ownerArea k] s t) ∧
  ∀ (s : State) (x : Transaction) (k n region buffer : Nat) (c : Instr) (o : LinkOutcome) (data : Option (List Byte)),
    s.LinesHold → s.link.Agrees → s.link.inFlight = some x → x.job.work = .query k n region buffer → k < 24 →
    buffer < 16 → WireEnd x c o data →
    ∃ t, exec c s = .next t ∧ t.clock = wireClock s x ∧ Arbitrated s t s.link.waiting ∧
      Kept [.clock, .link, .news, .attention] s t ∧
      (x.discard = true → t.notices.news = s.notices.news ∧ BytesKept [] s t) ∧
      (x.discard = false → s.port.careReset = false →
        (∀ bytes : List Byte, data = some bytes →
          Memory.readBytes t.port.memory (bulkBase buffer) 256 = bytes ++ List.replicate (256 - bytes.length) 0 ∧
          bytes.length = (if region < 2 then 16 else 8)) ∧
        BytesKept ((if data.isSome then [(bulkBase buffer, 256)] else []) ++ answerAreas k) s t ∧
        if s.slotOwner k = ownerAccepted ∧ s.acceptanceOf k = n then
          t.notices.news = s.notices.news ||| s.answerNews k ∧
            (∀ bytes : List Byte, data = some bytes → t.Answered k .done .none
              [byte (bayCode x.job.bay), byte region, byte bytes.length, byte (outcomeCode .good)]) ∧
            (data = none → t.Answered k .aborted .linkError
              [byte (bayCode x.job.bay), byte region, 0, byte (outcomeCode o)])
        else t.notices.news = s.notices.news ∧ BytesKept (if data.isSome then [(bulkBase buffer, 256)] else []) s t)

/-- BAY_RECHECK: BAD_PARAM for no bay, BAD_STATE with the state outside BARRED; in BARRED the bay enters READING
without its descriptor, a full IDENT job joins, the bay's STAMP job is withdrawn, its covered and follow-on records taking
FAILED, and the slot is answered DONE with READING (R25, R41, R162). The zero answer data of the BAD_PARAM refusal is the
model's choice (assumption log 13). -/
def Obligations.BayRecheckTaken : Prop :=
  ∀ (k : Nat) (s : State), s.LinesHold → s.Shaped → s.link.Agrees → s.Takes k 4 →
    (1 < s.param k 0 1 →
      ∃ t, exec .bayRecheck s = .next t ∧ t.notices.news = s.notices.news ||| s.answerNews k ∧
        AnsweredBut [] [] s t k .refused .badParam []) ∧
    ∀ b : Bay, s.param k 0 1 = bayCode b →
      ((s.bay b).state ≠ .barred →
        ∃ t, exec .bayRecheck s = .next t ∧ t.notices.news = s.notices.news ||| s.answerNews k ∧
          AnsweredBut [] [] s t k .refused .badState [byte (bayStateCode (s.bay b).state)]) ∧
      ((s.bay b).state = .barred →
        ∃ t, exec .bayRecheck s = .next t ∧ (t.bay b).state = .reading ∧ (t.bay b).descriptor = none ∧
          (t.bay b).barred = none ∧ (∀ j ∈ t.link.jobs, ¬ (j.bay = b ∧ j.work.isStamp = true)) ∧
          (∃ j ∈ t.link.jobs, j.bay = b ∧ j.work = .identFull [] ∧ j.order = s.link.nextOrder) ∧
          (∀ j ∈ s.link.jobs, ¬ (j.bay = b ∧ j.work.isStamp = true) → j ∈ t.link.jobs) ∧
          StampsFailed s t (fun j => decide (j.bay = b) && j.work.isStamp) ∧
          NewsWithin (newsBay ||| newsImpact ||| newsSlotAnswered) s t ∧
          AnsweredBut [.bay b, .link, .impact] [bayArea b, impactArea] s t k .done .none
            [byte (bayStateCode .reading)])

/-- SENSOR_PORT_RESET: BUSY in STARTING; in every other state the slot is ACCEPTED and the monitor enters STARTING for 10
ms with its samples stopped, out of a fall with the records' sensor-lost marks and the guard tail, and out of IMPACT with
the window recorded as it stands. STARTING_TIMER_EXPIRY starts the samples in QUIET and answers the slot. A port that is
neither 0 nor 1 is refused BAD_PARAM (R132, R140, R147, R148, R152, R154, R159, R181), by this row as by the other
(assumption log 30). The clock's move to the deadline and the zero answer data of the refusals are the model's choices
(assumption log 1, 13). A fold's clipped mark and its notice follow assumption log 27 and 28, and an opening that finds no
place log 29. -/
def Obligations.SensorPortRestarts : Prop :=
  ∀ (k : Nat) (s : State), s.LinesHold → s.Shaped →
    (s.Takes k 18 → 1 < s.param k 0 1 →
      ∃ t, exec .sensorPortReset s = .next t ∧ t.notices.news = s.notices.news ||| s.answerNews k ∧
        AnsweredBut [] [] s t k .refused .badParam []) ∧
    (s.Takes k 18 → s.param k 0 1 = 1 → s.drop.state = .starting →
      ∃ t, exec .sensorPortReset s = .next t ∧ t.notices.news = s.notices.news ||| s.answerNews k ∧
        AnsweredBut [] [] s t k .refused .busy []) ∧
    (s.Takes k 18 → s.param k 0 1 = 1 → (s.drop.state = .quiet ∨ s.drop.state = .suspect ∨ s.drop.state = .offline) →
      ∃ t, exec .sensorPortReset s = .next t ∧ AcceptedBy s t k ∧
        t.drop = { s.drop with
          state := .starting, n := none, r := none, missing := 0, sampleDue := none
          starting := some { timer := s.clock + ms 10, slot := some (k, s.acceptanceOf k + 1) } } ∧
        Kept [.intake, .acceptance, .drop] s t ∧ BytesKept [ownerArea k, dropArea] s t) ∧
    (s.Takes k 18 → s.param k 0 1 = 1 → s.drop.state = .falling →
      ∃ t, exec .sensorPortReset s = .next t ∧ AcceptedBy s t k ∧ t.drop.state = .starting ∧ t.drop.n = none ∧
        t.drop.sampleDue = none ∧ t.drop.missing = 0 ∧
        t.drop.starting = some { timer := s.clock + ms 10, slot := some (k, s.acceptanceOf k + 1) } ∧
        t.drop.episode = s.drop.episode ∧ t.drop.guardTail = some (s.drop.guardTail.getD (s.clock + ms 500)) ∧
        (∀ q ∈ s.drop.records, ∀ r, t.impact.record q = some r → r.isOpen = true → r.sensorLost = true) ∧
        Kept [.intake, .acceptance, .drop, .impact] s t ∧ BytesKept [ownerArea k, dropArea, impactArea] s t) ∧
    (s.Takes k 18 → s.param k 0 1 = 1 → ∀ g : Settling, s.drop.settling = some g → s.drop.state = .settling →
      ∃ t, exec .sensorPortReset s = .next t ∧ AcceptedBy s t k ∧
        t.drop = { s.drop with
          state := .starting, n := none, r := none, missing := 0, sampleDue := none, settling := none
          guardTail := some (s.drop.guardTail.getD (s.clock + ms 500))
          starting := some { timer := s.clock + ms 10, slot := some (k, s.acceptanceOf k + 1) } } ∧
        MarkedLost s t (s.drop.records ++ [g.target]) none ∧
        Kept [.intake, .acceptance, .drop, .impact] s t ∧ BytesKept [ownerArea k, dropArea, impactArea] s t) ∧
    (s.Takes k 18 → s.param k 0 1 = 1 → ∀ w : ImpactWindow, s.drop.window = some w → s.drop.state = .impact →
      ∃ t, exec .sensorPortReset s = .next t ∧ AcceptedBy s t k ∧
        t.drop = { s.drop with
          state := .starting, n := none, r := none, missing := 0, sampleDue := none, window := none
          episode := t.drop.episode, guardTail := some (s.drop.guardTail.getD (s.clock + ms 500))
          starting := some { timer := s.clock + ms 10, slot := some (k, s.acceptanceOf k + 1) } } ∧
        WindowCut s t w [] ∧ t.notices.news = s.notices.news ||| newsImpact ||| s.postNews ∧
        Kept [.intake, .acceptance, .drop, .impact, .noticeList, .news, .attention] s t ∧
        BytesKept [ownerArea k, dropArea, impactArea, noticeArea s] s t) ∧
    ∀ g : Starting, s.drop.starting = some g → (∀ slot acceptance : Nat, g.slot = some (slot, acceptance) → slot < 24) →
      ∃ t, exec .startingTimerExpiry s = .next t ∧ t.clock = max s.clock g.timer ∧
        t.drop = { s.drop with
          state := .quiet, missing := 0, starting := none, sampleDue := some (t.clock + 5) } ∧
        Kept [.clock, .drop, .news, .attention] s t ∧
        (g.slot = none → BytesKept [dropArea] s t) ∧
        ∀ slot acceptance : Nat, g.slot = some (slot, acceptance) →
          if s.slotOwner slot = ownerAccepted ∧ s.acceptanceOf slot = acceptance then
            t.Answered slot .done .none [1, byte (monitorCode .quiet)] ∧ BytesKept (dropArea :: answerAreas slot) s t
          else BytesKept [dropArea] s t

/-- PACK_LINK_PORT_RESET: BUSY in RESETTING; otherwise the slot is ACCEPTED, every job leaves, and the link is
RESETTING for 5 ms; the records of a STAMP job take FAILED, the slot of a QUERY job is answered ABORTED PORT_RESET, and a
bay in READING returns to SEATING for a full 200 ms. RESET_TIMER_EXPIRY frees the wire for the arbiter, which starts the
first waiting job by its order, and answers the slot. A port that is neither 0 nor 1 is refused BAD_PARAM (R19, R33, R39,
R42, R43, R162, R181), by this row as by the other (assumption log 30). The place of a record is rewritten once for each
FAILED outcome that it takes: that an outcome and the close it brings are one rewrite, and so the exact write count, is the
model's choice (assumption log 7), for the manual lists stamp outcome and close one by one. The outcome byte of an aborted
query is assumption log 23, and a job already begun goes before another of the same queuing uptime by log 39. The clock's
move to the deadline and the zero answer data of the refusals are the model's choices (assumption log 1, 13). -/
def Obligations.PackLinkRestarts : Prop :=
  ∀ (k : Nat) (s : State), s.LinesHold → s.Shaped → s.link.Agrees → s.link.SlotsOk →
    (s.Takes k 18 → 1 < s.param k 0 1 →
      ∃ t, exec .packLinkPortReset s = .next t ∧ t.notices.news = s.notices.news ||| s.answerNews k ∧
        AnsweredBut [] [] s t k .refused .badParam []) ∧
    (s.Takes k 18 → s.param k 0 1 = 0 → s.link.state = .resetting →
      ∃ t, exec .packLinkPortReset s = .next t ∧ t.notices.news = s.notices.news ||| s.answerNews k ∧
        AnsweredBut [] [] s t k .refused .busy []) ∧
    (s.Takes k 18 → s.param k 0 1 = 0 → s.link.state ≠ .resetting →
      ∃ t, exec .packLinkPortReset s = .next t ∧ t.acceptanceOf k = s.acceptanceOf k + 1 ∧
        ((∀ j ∈ s.link.jobs, j.queryOf k = false) → t.slotOwner k = ownerAccepted) ∧
        t.port.intake = s.port.intake.tail ∧
        t.link = { s.link with
          state := .resetting, waiting := [], inFlight := none, resetTimer := some (s.clock + ms 5)
          resetSlot := some (k, s.acceptanceOf k + 1) } ∧
        (∀ b : Bay,
          ((s.bay b).state = .reading → (t.bay b).state = .seating ∧ (t.bay b).seatingTimer = some (s.clock + ms 200)) ∧
          ((s.bay b).state ≠ .reading → (s.bay b).joltedIn .serialCheck = false → t.bay b = s.bay b) ∧
          ∀ j : Jolt, (s.bay b).jolt = some j → (s.bay b).state = .jolted → j.phase = .serialCheck →
            t.bay b = { s.bay b with
              jolt := some { j with phase := .contactHold, holdTimer := some (s.clock + ms 20) } }) ∧
        StampsFailed s t (fun _ => true) ∧ PlacesRewritten s t (s.failures (fun _ => true)) ∧
        ((∀ j ∈ s.link.jobs, j.queryOf k = false) → QueriesAborted s t (fun _ => true) .abandoned .portReset) ∧
        NewsWithin (newsBay ||| newsImpact ||| newsSlotAnswered) s t ∧
        Kept [.intake, .acceptance, .link, .bay .a, .bay .b, .impact, .news, .attention] s t ∧
        BytesKept (queryAreas s (fun _ => true) ++ [ownerArea k, bayArea .a, bayArea .b, impactArea]) s t) ∧
    ∀ till : Instant, s.link.resetTimer = some till →
      (∀ slot acceptance : Nat, s.link.resetSlot = some (slot, acceptance) → slot < 24) →
      ∃ t, exec .resetTimerExpiry s = .next t ∧ t.clock = max s.clock till ∧ t.link.resetTimer = none ∧
        (∀ j ∈ t.link.jobs, j ∈ s.link.jobs) ∧ (∀ j ∈ s.link.jobs, j ∈ t.link.jobs) ∧
        (t.link.state = .idle ↔ s.link.waiting = []) ∧
        Arbitrated { s with link := { s.link with resetTimer := none, resetSlot := none } } t s.link.waiting ∧
        Kept [.clock, .link, .news, .attention] s t ∧
        (s.link.resetSlot = none → BytesKept [] s t) ∧
        ∀ slot acceptance : Nat, s.link.resetSlot = some (slot, acceptance) →
          if s.slotOwner slot = ownerAccepted ∧ s.acceptanceOf slot = acceptance then
            t.Answered slot .done .none [0] ∧ BytesKept (answerAreas slot) s t
          else BytesKept [] s t

/-- BAY_RELEASE: a bad bay is refused BAD_PARAM; a request that fails a check is refused with that check's reason,
L_need and best capacity; any other is granted and ACCEPTED (R65, R66, R76, R79). The grant finds the other bay's latch
neither OPENING nor OPEN, and no SWAP entry (R71, R85). Whether the other bay may carry follows its gauge-stale mark
(assumption log 45). The zero carrier, phase and flag bytes of a refusal, and the zeros beside the value that names no
bay, are the model's choices (assumption log 13, 41). -/
def Obligations.BayReleaseTaken : Prop :=
  ∀ (k : Nat) (s : State), s.LinesHold → s.Shaped → s.Takes k 1 →
    (1 < s.param k 0 1 →
      ∃ t, exec .bayRelease s = .next t ∧ t.notices.news = s.notices.news ||| s.answerNews k ∧
        AnsweredBut [] [] s t k .refused .badParam [byte (s.param k 0 1)]) ∧
    ∀ x : Bay, s.param k 0 1 = bayCode x →
      (∀ (r : Reason) (v : Nat × Nat), refusalOf s x = some (r, v) →
        ∃ t, exec .bayRelease s = .next t ∧ t.notices.news = s.notices.news ||| s.answerNews k ∧
          AnsweredBut [] [] s t k .refused r
            ([byte (bayCode x), byte (bayStateCode (s.bay x).state), byte (latchCode (s.bay x).latch), 0, 0, 0, 0, 0] ++
              leBytes 4 v.1 ++ leBytes 4 v.2)) ∧
      (refusalOf s x = none → (s.bay (otherBay x)).latch ≠ .opening → (s.bay (otherBay x)).latch ≠ .opened →
        s.holds.holds (.latch (otherBay x)) .swap = false →
        ∃ t, exec .bayRelease s = .next t ∧ AcceptedBy s t k ∧ Granted s t x (.slot k (s.acceptanceOf k + 1)) ∧
          Kept [.intake, .acceptance, .swap, .bay x, .power, .holds, .news, .attention] s t ∧
          BytesKept [ownerArea k, sourcesArea, bayArea .a, bayArea .b, holdArea] s t)

/-- CANCEL of a target that is not ACCEPTED work: the rows of R183 in order, each with its refusal, and a READY
BAY_RELEASE or PACK_QUERY answered CANCELLED and off the intake list (R180, R183, R184). For a target that is no slot,
the kind and owner bytes of the answer are free (assumption log 12). -/
def Obligations.CancelOfWaitingRequests : Prop :=
  ∀ (k : Nat) (s : State), s.LinesHold → s.Takes k 2 →
    let target := s.param k 0 1
    let data := [byte target, byte (s.slotKind target), byte (s.slotOwner target)]
    (target = k →
      ∃ t, exec .cancel s = .next t ∧ t.notices.news = s.notices.news ||| s.answerNews k ∧
        AnsweredBut [] [] s t k .refused .badParam data) ∧
    (24 ≤ target →
      ∃ t, exec .cancel s = .next t ∧ t.slotOwner k = ownerAnswered ∧ t.slotByte k 32 = statusCode .refused ∧
        t.slotByte k 33 = reasonCode .badParam ∧ t.slotByte k 36 = target ∧ t.free = s.free + 1 ∧
        t.port.intake = s.port.intake.tail ∧ t.notices.news = s.notices.news ||| s.answerNews k ∧
        Kept (.free :: answerParts) s t ∧ BytesKept (answerAreas k) s t) ∧
    (target < 24 → target ≠ k →
      if s.slotOwner target = ownerEmpty ∨ s.slotOwner target = ownerAnswered ∨ s.slotTag target ≠ s.param k 2 2 then
        ∃ t, exec .cancel s = .next t ∧ t.notices.news = s.notices.news ||| s.answerNews k ∧
          AnsweredBut [] [] s t k .refused .tooLate data
      else if s.slotOwner target = ownerReady ∧ (s.slotKind target = 1 ∨ s.slotKind target = 3) then
        ∃ t, exec .cancel s = .next t ∧ t.Answered k .done .none data ∧ t.Answered target .cancelled .none [] ∧
          t.port.intake = s.port.intake.tail.filter (fun j => j != target) ∧
          t.notices.news = s.notices.news ||| s.answerNews target ||| s.answerNews k ∧
          Kept answerParts s t ∧ BytesKept (answerAreas k ++ answerAreas target) s t
      else if s.slotKind target ≠ 1 ∧ s.slotKind target ≠ 3 then
        ∃ t, exec .cancel s = .next t ∧ t.notices.news = s.notices.news ||| s.answerNews k ∧
          AnsweredBut [] [] s t k .refused .badState data
      else True)

/-- CANCEL of ACCEPTED work: a PACK_QUERY whose job is WAITING loses it and is answered CANCELLED with byte count 0; a
BAY_RELEASE in SWITCHING goes back to ONLINE and is answered CANCELLED; in UNLATCHING and WAITING it relatches with
the cancel-requested mark, and is answered at its end; in RELATCHING, and for a query in flight, the CANCEL is refused
TOO_LATE (R40, R73, R83, R85, R88, R183). The outcome byte of the cancelled query is free (assumption log 12). The
answer's bay and latch states are those after the end (assumption log 14). A latch reversed while its sensor reads
closed waits for the sensor's next change (assumption log 42). -/
def Obligations.CancelOfAcceptedWork : Prop :=
  ∀ (k : Nat) (s : State), s.LinesHold → s.Shaped → s.ReleaseAgrees → s.link.Agrees → s.Takes k 2 →
    let target := s.param k 0 1
    let data := [byte target, byte (s.slotKind target), byte ownerAccepted]
    target < 24 → target ≠ k → s.slotOwner target = ownerAccepted → s.slotTag target = s.param k 2 2 →
    (s.slotKind target = 3 → (∀ j ∈ s.link.waiting, j.queryOf target = false) →
      ∃ t, exec .cancel s = .next t ∧ t.notices.news = s.notices.news ||| s.answerNews k ∧
        AnsweredBut [] [] s t k .refused .tooLate data) ∧
    (s.slotKind target = 3 → ∀ j : Job, s.link.waiting.find? (fun j => j.queryOf target) = some j →
      ∃ t, exec .cancel s = .next t ∧ t.Answered k .done .none data ∧ t.slotOwner target = ownerAnswered ∧
        t.slotByte target 32 = statusCode .cancelled ∧ t.slotByte target 33 = reasonCode .none ∧
        t.slotByte target 36 = bayCode j.bay ∧ t.slotByte target 38 = 0 ∧
        t.link = { s.link with waiting := s.link.waiting.filter (fun j => !j.queryOf target) } ∧
        t.port.intake = s.port.intake.tail ∧
        t.notices.news = s.notices.news ||| s.answerNews target ||| s.answerNews k ∧
        Kept (.free :: .link :: answerParts) s t ∧ BytesKept (answerAreas k ++ answerAreas target) s t) ∧
    (s.slotKind target = 1 → ∀ w : SwapContext, s.swap = some w →
      ((w.phase = .relatching ∨ w.requester ≠ .slot target (s.acceptanceOf target)) →
        ∃ t, exec .cancel s = .next t ∧ t.notices.news = s.notices.news ||| s.answerNews k ∧
          AnsweredBut [] [] s t k .refused .tooLate data) ∧
      (w.requester = .slot target (s.acceptanceOf target) → w.phase = .switching → (s.bay w.bay).latch = .closed →
        ∃ t, exec .cancel s = .next t ∧ t.swap = none ∧ (t.bay w.bay).state = .online ∧
          (t.bay w.bay).pathClosed = true ∧ (t.bay w.bay).pollDue = some (s.clock + ms 1000) ∧
          t.holds.entries =
            s.holds.entries.filter (fun e => !decide (e.kind = .latch (otherBay w.bay) ∧ e.owner = .swap)) ∧
          t.Answered k .done .none data ∧
          t.Answered target .cancelled .none
            ([byte (bayCode w.bay), byte (bayStateCode .online), byte (latchCode .closed), byte (carrierCode w.carrier),
              byte (phaseCode .switching), byte (flagBit 1 w.pathReclosed), 0, 0] ++ leBytes 4 w.need ++
              leBytes 4 w.best) ∧
          (if s.link.hasGauge w.bay then t.link = s.link else Joined s t w.bay .gauge) ∧
          Kept ([.swap, .bay w.bay, .holds, .link] ++ answerParts) s t ∧
          BytesKept ([bayArea .a, bayArea .b, holdArea] ++ answerAreas k ++ answerAreas target) s t) ∧
      (w.requester = .slot target (s.acceptanceOf target) → (w.phase = .unlatching ∨ w.phase = .waiting) →
        ((s.bay w.bay).latch = .opening ∨ (s.bay w.bay).latch = .opened) →
        ∃ t, exec .cancel s = .next t ∧
          t.swap = some { w with
            phase := .relatching, switchingTimer := none, windowTimer := none, cancelRequested := true
            abortReason := none } ∧
          t.bay w.bay = { s.bay w.bay with latch := .closing, latchTimer := some (s.clock + ms 400) } ∧
          t.slotOwner target = ownerAccepted ∧
          t.notices.news = s.notices.news ||| newsBay ||| s.answerNews k ∧
          AnsweredBut [.swap, .bay w.bay] [bayArea w.bay] s t k .done .none data))

/-! ### Bays -/

/-- CONTACT_ARRIVAL: VACANT to SEATING with the 200 ms timer; in JOLTED without contact, the 20 ms contact hold;
nothing in any other state. CONTACT_LOSS of a bay that is not ONLINE or RELEASING: SEATING goes back to VACANT with no
notice; READING and BARRED go to VACANT with PACK_REMOVED and the pack gone; JOLTED goes back to NO_CONTACT, out of
SERIAL_CHECK with the pack gone, or, with the jolt timer expired, to VACANT with PACK_LOST and the outcome LOST. With the
pack gone its jobs leave, the records of a STAMP job take FAILED, and the slots of QUERY jobs are answered ABORTED
PACK_GONE (R5, R6, R7, R10, R12, R13, R39, R41, R162, R163). That an arrival in another state, and a loss of a bay without
contact, change nothing is the model's choice (assumption log 3); PACK_LOST carries the removed descriptor's serial
(assumption log 15); the outcome byte of an aborted query is assumption log 23, the age of a closed record log 46. -/
def Obligations.ContactOfUnreadBays : Prop :=
  (∀ (b : Bay) (s : State), s.LinesHold →
      ∃ t, exec (.contactArrival b) s = .next t ∧ (t.bayPins b) = { s.bayPins b with contact := true } ∧
        t.bayPins (otherBay b) = s.bayPins (otherBay b) ∧
        Kept [.pins, .bay b, .news, .attention] s t ∧ BytesKept [bayArea b] s t ∧
        ((s.bay b).state = .vacant →
          (t.bay b).state = .seating ∧ (t.bay b).seatingTimer = some (s.clock + ms 200) ∧ (s.bay b).SameBay (t.bay b) ∧
            t.notices.news = s.notices.news ||| newsBay) ∧
        ((s.bay b).state ≠ .vacant → t.notices.news = s.notices.news) ∧
        (∀ j : Jolt, (s.bay b).jolt = some j → (s.bay b).state = .jolted → j.phase = .noContact →
          t.bay b = { s.bay b with
            jolt := some { j with phase := .contactHold, holdTimer := some (s.clock + ms 20) } }) ∧
        ((s.bay b).state ≠ .vacant → (s.bay b).state ≠ .jolted → t.bay b = s.bay b)) ∧
  ∀ (b : Bay) (s : State), s.LinesHold → s.Shaped → s.link.Agrees → s.link.SlotsOk →
    ((s.bay b).state = .vacant →
      ∃ t, exec (.contactLoss b) s = .next t ∧ Kept [.pins] s t ∧ BytesKept [] s t) ∧
    ((s.bay b).state = .seating →
      ∃ t, exec (.contactLoss b) s = .next t ∧ (t.bay b).Empty ∧ (s.bay b).SameBay (t.bay b) ∧
        t.notices.news = s.notices.news ||| newsBay ∧
        Kept [.pins, .bay b, .news, .attention] s t ∧ BytesKept [bayArea b] s t) ∧
    (((s.bay b).state = .reading ∨ (s.bay b).state = .barred) →
      ∃ t, exec (.contactLoss b) s = .next t ∧ (t.bay b).Empty ∧ (s.bay b).SameBay (t.bay b) ∧ GoneFromLink s t b ∧
        PackGone s t b ∧ Posted s t .packRemoved (some b) 0 (leBytes 8 (s.serial b).toNat) ∧
        NewsWithin (newsBay ||| newsImpact ||| newsSlotAnswered ||| s.postNews) s t ∧
        Kept [.pins, .bay b, .link, .impact, .noticeList, .news, .attention] s t ∧
        BytesKept (queryAreas s (ofBay b) ++ [bayArea b, impactArea, noticeArea s]) s t) ∧
    ∀ j : Jolt, (s.bay b).state = .jolted → (s.bay b).jolt = some j →
      (j.phase = .noContact →
        ∃ t, exec (.contactLoss b) s = .next t ∧ Kept [.pins] s t ∧ BytesKept [] s t) ∧
      (j.phase ≠ .noContact → j.expired = false →
        ∃ t, exec (.contactLoss b) s = .next t ∧
          t.bay b = { s.bay b with jolt := some { j with phase := .noContact, holdTimer := none } } ∧
          (j.phase = .contactHold → Kept [.pins, .bay b] s t ∧ BytesKept [bayArea b] s t) ∧
          (j.phase = .serialCheck →
            GoneFromLink s t b ∧ PackGone s t b ∧ NewsWithin (newsImpact ||| newsSlotAnswered) s t ∧
              Kept [.pins, .bay b, .link, .impact, .news, .attention] s t ∧
              BytesKept (queryAreas s (ofBay b) ++ [bayArea b, impactArea]) s t)) ∧
      (j.phase ≠ .noContact → j.expired = true →
        ∃ t, exec (.contactLoss b) s = .next t ∧ (t.bay b).Empty ∧ (s.bay b).SameBay (t.bay b) ∧
          Posted s t .packLost (some b) 1 (leBytes 8 (s.serial b).toNat) ∧
          (j.phase = .contactHold →
            JoltHanded s t b .lost ∧ t.notices.news = s.notices.news ||| newsBay ||| s.postNews ∧
              Kept [.pins, .bay b, .impact, .noticeList, .news, .attention] s t ∧
              BytesKept [bayArea b, impactArea, noticeArea s] s t) ∧
          (j.phase = .serialCheck →
            GoneFromLink s t b ∧
              (∃ u : ImpactStore, PackGone s { t with impact := u } b ∧ JoltHanded { s with impact := u } t b .lost) ∧
              NewsWithin (newsBay ||| newsImpact ||| newsSlotAnswered ||| s.postNews) s t ∧
              Kept [.pins, .bay b, .link, .impact, .noticeList, .news, .attention] s t ∧
              BytesKept (queryAreas s (ofBay b) ++ [bayArea b, impactArea, noticeArea s]) s t))

/-- CONTACT_LOSS of an ONLINE bay: in a fall it is JOLTED for 500 ms with its descriptor and gauge kept and no notice;
otherwise it is VACANT with PACK_LOST. Its charge allocation is 0 and its pack gone: the records of its STAMP job take
FAILED, and the slots of its QUERY jobs are answered ABORTED PACK_GONE. For a release of the other bay that it carries, the
loss is a carrier loss, and the carry check is run again; with no carrier left and the latch CLOSED, as in SWITCHING, the
release ends at once ABORTED CARRIER_LOST (R8, R9, R41, R58, R65, R66, R73, R83, R84, R85, R90, R91). PACK_LOST carries the
serial of the descriptor just removed (assumption log 15). A latch reversed while its sensor reads closed waits for the
sensor's next change (assumption log 42). The outcome byte of an aborted query is assumption log 23, the states in the
answer of an end log 14, a carrier's gauge-stale mark log 45, and that the carrier loss is handed last, so that PACK_LOST
comes before the notice of the end, log 26. -/
def Obligations.ContactLeavesOnline : Prop :=
  ∀ (b : Bay) (s : State), s.LinesHold → s.Shaped → s.link.Agrees → s.link.SlotsOk → (s.bay b).state = .online →
    let left := fun (t : State) (l : PackLink) (posts : List Post) (parts : List Part) (areas : List Area) =>
      let frame := fun (posts : List Post) (parts : List Part) (areas : List Area) =>
        PostedMany s t posts ∧
        NewsWithin (newsBay ||| newsImpact ||| newsSlotAnswered ||| s.postBits posts.length) s t ∧
        Kept (parts ++ [.pins, .bay b, .power, .link, .impact, .news, .attention]) s t ∧
        BytesKept (areas ++ queryAreas s (ofBay b) ++ [sourcesArea, bayArea b, impactArea]) s t
      GoneFromLink s { t with link := l } b ∧ PackGone s t b ∧
      (s.bay b).SameBay (t.bay b) ∧ (t.bay b).pathClosed = false ∧ (t.bay b).pollDue = none ∧
      t.power = (match b with
        | .a => { s.power with chargeA := 0 }
        | .b => { s.power with chargeB := 0 }) ∧
      if s.drop.state = .falling ∨ s.drop.state = .impact ∨ s.drop.state = .settling then
        (t.bay b).state = .jolted ∧ (t.bay b).descriptor = (s.bay b).descriptor ∧ (t.bay b).gauge = (s.bay b).gauge ∧
          (t.bay b).stale = (s.bay b).stale ∧ (t.bay b).failedPolls = (s.bay b).failedPolls ∧
          (t.bay b).jolt = some { timer := some (s.clock + ms 500), phase := .noContact, holdTimer := none, expired := false } ∧
          frame posts parts areas
      else
        (t.bay b).Empty ∧
          frame (⟨.packLost, some b, 0, leBytes 8 (s.serial b).toNat⟩ :: posts) (.noticeList :: parts) (noticeArea s :: areas)
    ((∀ w : SwapContext, s.swap = some w → w.carrier ≠ .bay b ∨ w.pathReclosed = true) →
      ∃ t, exec (.contactLoss b) s = .next t ∧ left t t.link [] [] []) ∧
    ∀ w : SwapContext, s.swap = some w → w.carrier = .bay b → w.pathReclosed = false → w.bay = otherBay b →
      (s.bay w.bay).state = .releasing →
      ∃ t, exec (.contactLoss b) s = .next t ∧
        (¬ LossEnds s t w → CarrierChecked s t w ∧ left t t.link [] [.swap, .bay w.bay] [bayArea w.bay]) ∧
        (LossEnds s t w → s.AsksAlone w →
          let v := relatchedFor (reclosedAt w t) .carrierLost
          EndedAtOnce s t w v .carrierLost ∧ t.holds.entries = withoutSwap w s.holds.entries ∧
          ∃ l : PackLink, PollJoined { s with link := l } t w.bay ∧
            left t l (abortPosts s v .carrierLost) [.swap, .bay w.bay, .holds, .noticeList]
              ([bayArea w.bay, holdArea] ++ endAreas w))

/-- CONTACT_LOSS of a RELEASING bay before RELATCHING is the pack removed, whoever asked: the bay is VACANT, its latch
driven closed, the release and its SWAP entry are gone, PACK_REMOVED and no other notice is posted, and a slot that asked
and still waits is answered DONE. In RELATCHING the bay is VACANT, the latch goes on closing, PACK_REMOVED or, from a
reclosed path, PACK_LOST is posted, and the release ends with its fixed end. The pack is gone from the link: the records
of its STAMP job take FAILED, and the slots of its QUERY jobs are answered ABORTED PACK_GONE (R39, R41, R73, R85, R86, R87,
R92, R162). The outcome byte of an aborted query is assumption log 23. The answer's bay and latch states are those after
the end (assumption log 14), the notices carry the serial of the descriptor just removed (assumption log 15), and that the
removal's notice comes before the end's is log 26. A latch reversed while its sensor reads closed waits for the sensor's
next change (assumption log 42). -/
def Obligations.ReleasedPackRemoved : Prop :=
  (∀ s : State, s.LinesHold → s.Shaped → s.ReleaseAgrees → s.link.Agrees → s.link.SlotsOk →
    ∀ w : SwapContext, s.swap = some w → w.phase ≠ .relatching → s.AsksAlone w →
    ∃ t, exec (.contactLoss w.bay) s = .next t ∧ t.swap = none ∧ (t.bay w.bay).Empty ∧
      (t.bay w.bay).latch =
        (if (s.bay w.bay).latch = .opening ∨ (s.bay w.bay).latch = .opened then .closing else (s.bay w.bay).latch) ∧
      GoneFromLink s t w.bay ∧ PackGone s t w.bay ∧ t.holds.entries = withoutSwap w s.holds.entries ∧
      Posted s t .packRemoved (some w.bay)
        (if s.holds.entries.any (fun e => decide (e.kind = .latch w.bay ∧ e.owner = .fall)) then 1 else 0)
        (leBytes 8 (s.serial w.bay).toNat) ∧
      EndAnswered s t w .removed ∧
      NewsWithin (newsBay ||| newsImpact ||| newsSlotAnswered ||| s.postNews) s t ∧
      (newsBay ||| s.postNews ||| s.endBits w) &&& ~~~t.notices.news = 0 ∧
      Kept [.pins, .bay w.bay, .swap, .holds, .link, .impact, .noticeList, .news, .attention] s t ∧
      BytesKept (askerAreas w ++ queryAreas s (ofBay w.bay) ++
        [bayArea .a, bayArea .b, holdArea, impactArea, noticeArea s]) s t) ∧
  ∀ s : State, s.LinesHold → s.Shaped → s.ReleaseAgrees → s.link.Agrees → s.link.SlotsOk →
    ∀ w : SwapContext, s.swap = some w → w.phase = .relatching →
    s.AsksAlone w →
    ((s.bay w.bay).latch = .closing ∨ (s.bay w.bay).latch = .stuck) →
    let falling := s.drop.state = .falling ∨ s.drop.state = .impact ∨ s.drop.state = .settling
    let guarded := s.holds.entries.any (fun e => decide (e.kind = .latch w.bay ∧ e.owner = .fall)) = true
    ∃ t, exec (.contactLoss w.bay) s = .next t ∧ t.swap = none ∧ (t.bay w.bay).Empty ∧
      (s.bay w.bay).SameBay (t.bay w.bay) ∧ GoneFromLink s t w.bay ∧ PackGone s t w.bay ∧
      t.holds.entries = withoutSwap w s.holds.entries ∧
      EndReported s t w (fixedEndOf w)
        [if (s.bay w.bay).pathClosed = true then
          ⟨.packLost, some w.bay, if falling then 1 else 0, leBytes 8 (s.serial w.bay).toNat⟩
        else ⟨.packRemoved, some w.bay, if guarded then 1 else 0, leBytes 8 (s.serial w.bay).toNat⟩] ∧
      NewsWithin (newsBay ||| newsImpact ||| newsSlotAnswered ||| newsNotice ||| newsDeferred) s t ∧
      Kept [.pins, .bay w.bay, .swap, .holds, .link, .impact, .noticeList, .news, .attention] s t ∧
      BytesKept (endAreas w ++ queryAreas s (ofBay w.bay) ++ [bayArea .a, bayArea .b, holdArea, impactArea]) s t

/-- SEATING_TIMER_EXPIRY: the bay is READING, a full IDENT job joins, and PACK_SEATED is posted with a serial of zero.
GAUGE_POLL: the next poll falls due 1000 ms after this one; a GAUGE job joins unless the bay has one, and a skipped
poll changes nothing else. A region read of the full IDENT job: the job goes on to the next region, before every younger
job; or it ends, and the bay is ONLINE with its descriptor, PACK_READY and a poll due, or BARRED with the first reason
that the checks give and PACK_BARRED (R5, R14, R15, R16, R17, R18, R20, R28, R33, R34). The clock's move to the deadline
is the model's choice (assumption log 1), and so is the return of a job already begun before another of the same queuing
uptime (assumption log 39). -/
def Obligations.SeatingAndPolls : Prop :=
  (∀ (b : Bay) (s : State), s.LinesHold → s.link.Agrees → ∀ till : Instant, (s.bay b).seatingTimer = some till →
      (s.bay b).state = .seating →
      ∃ t, exec (.seatingTimerExpiry b) s = .next t ∧ t.clock = max s.clock till ∧ (t.bay b).state = .reading ∧
        (t.bay b).seatingTimer = none ∧ (s.bay b).SameBay (t.bay b) ∧ Joined s t b (.identFull []) ∧
        Posted s t .packSeated (some b) 0 (List.replicate 8 0) ∧
        t.notices.news = s.notices.news ||| newsBay ||| s.postNews ∧
        Kept [.clock, .bay b, .link, .noticeList, .news, .attention] s t ∧ BytesKept [bayArea b, noticeArea s] s t) ∧
  (∀ (b : Bay) (s : State), s.LinesHold → s.link.Agrees → ∀ due : Instant, (s.bay b).pollDue = some due →
    ∃ t, exec (.gaugePoll b) s = .next t ∧ t.clock = max s.clock due ∧
      t.bay b = { s.bay b with pollDue := some (due + ms 1000) } ∧
      (if s.link.jobs.any (fun j => decide (j.bay = b) && j.work.isGauge) then t.link = s.link else Joined s t b .gauge) ∧
      Kept [.clock, .bay b, .link] s t ∧ BytesKept [bayArea b] s t) ∧
  ∀ (s : State) (x : Transaction) (regions : List (List Byte)) (c : Instr) (o : LinkOutcome) (data : Option (List Byte)),
    s.LinesHold → s.link.Agrees → s.link.inFlight = some x → x.job.work = .identFull regions →
    (s.bay x.job.bay).state = .reading → WireEnd x c o data →
    let b := x.job.bay
    let read := regionsRead regions data
    (identGoesOn regions data →
      let j : Job := { x.job with work := .identFull read }
      ∃ t, exec c s = .next t ∧ t.clock = wireClock s x ∧ Arbitrated s t (s.link.waiting ++ [j]) ∧
        ((∀ q ∈ s.link.waiting, q.work.class = 1 → q.work.begun = false ∧ j.queuedAt ≤ q.queuedAt) →
          ∃ y, t.link.inFlight = some y ∧ y.job = j ∧ t.link.waiting = s.link.waiting) ∧
        Kept [.clock, .link] s t ∧ BytesKept [] s t) ∧
    (¬ identGoesOn regions data →
      ∃ t, exec c s = .next t ∧ t.clock = wireClock s x ∧
        t.notices.news = s.notices.news ||| newsBay ||| s.postNews ∧
        Kept [.clock, .bay b, .link, .noticeList, .news, .attention] s t ∧ BytesKept [bayArea b, noticeArea s] s t ∧
        match barredFor read data.isNone (s.bay (otherBay b)) with
        | none =>
          let d := readDescriptor read
          t.bay b = onlineAgain { s.bay b with
            descriptor := some d, stale := true, failedPolls := 0
            gauge := some
              { voltage := 0, current := 0, remaining := 0, full := 0, temperature := 0, flags := 0, charge := 0 } } t.clock ∧
          ArbitratedWith s t b .gauge ∧
          Posted s t .packReady (some b) 0
            (leBytes 8 d.serial.toNat ++ [byte d.chemistry, byte d.series] ++ leBytes 4 d.design ++ [d.marks])
        | some r =>
          let kept := 1 ≤ read.length ∧ field (read.getD 0 []) 0 2 = 0x5C3A
          t.bay b = { s.bay b with
            state := .barred, barred := some r, pathClosed := false
            descriptor := if kept then some (readDescriptor read) else none } ∧
          Arbitrated s t s.link.waiting ∧
          Posted s t .packBarred (some b) 0
            (leBytes 8 (if kept then (readDescriptor read).serial else 0).toNat ++ [byte (barredCode r)]))

/-- CONTACT_HOLD_EXPIRY starts the serial check with a serial-only IDENT job. JOLT_TIMER_EXPIRY: without contact the
bay is VACANT, PACK_LOST is posted with its during-impact flag set and LOST is handed to the impact store; in the other
phases the jolt-expired mark is set. The end of the serial-only IDENT job brings the same pack back ONLINE, and any other
to READING with a full IDENT job, with PACK_JOLTED and the jolt outcome (R10, R11, R12, R13, R20, R28, R33, R163). The
clock's move to the deadline is the model's choice (assumption log 1); PACK_LOST carries the serial of the removed
descriptor (assumption log 15), and the age of a closed record is counted in elapsed time (assumption log 46). -/
def Obligations.JoltTimersEnd : Prop :=
  (∀ (b : Bay) (s : State), s.LinesHold → s.Shaped → s.link.Agrees → ∀ j : Jolt, (s.bay b).jolt = some j →
    (s.bay b).state = .jolted →
    (∀ till : Instant, j.holdTimer = some till →
      ∃ t, exec (.contactHoldExpiry b) s = .next t ∧ t.clock = max s.clock till ∧
        t.bay b = { s.bay b with jolt := some { j with phase := .serialCheck, holdTimer := none } } ∧
        Joined s t b .identSerial ∧ Kept [.clock, .bay b, .link] s t ∧ BytesKept [bayArea b] s t) ∧
    ∀ till : Instant, j.timer = some till →
      (j.phase = .noContact →
        ∃ t, exec (.joltTimerExpiry b) s = .next t ∧ t.clock = max s.clock till ∧ (t.bay b).Empty ∧
          (s.bay b).SameBay (t.bay b) ∧ Posted s t .packLost (some b) 1 (leBytes 8 (s.serial b).toNat) ∧
          JoltHanded s t b .lost ∧ t.notices.news = s.notices.news ||| newsBay ||| s.postNews ∧
          Kept [.clock, .bay b, .impact, .noticeList, .news, .attention] s t ∧
          BytesKept [bayArea b, impactArea, noticeArea s] s t) ∧
      (j.phase ≠ .noContact →
        ∃ t, exec (.joltTimerExpiry b) s = .next t ∧ t.clock = max s.clock till ∧
          t.bay b = { s.bay b with jolt := some { j with timer := none, expired := true } } ∧
          Kept [.clock, .bay b] s t ∧ BytesKept [bayArea b] s t)) ∧
  ∀ (s : State) (x : Transaction) (c : Instr) (o : LinkOutcome) (data : Option (List Byte)) (j : Jolt),
    s.LinesHold → s.Shaped → s.link.Agrees → s.link.inFlight = some x → x.job.work = .identSerial →
    (s.bay x.job.bay).state = .jolted → (s.bay x.job.bay).jolt = some j → j.phase = .serialCheck → WireEnd x c o data →
    let b := x.job.bay
    let same := ∃ region0, data = some region0 ∧ field region0 0 2 = 0x5C3A ∧
      ∃ d, (s.bay b).descriptor = some d ∧ d.serial = BitVec.ofNat 64 (field region0 8 8)
    let ended := fun (t : State) (outcome : JoltOutcome) =>
      t.clock = wireClock s x ∧ JoltHanded s t b outcome ∧
        Posted s t .packJolted (some b) 0 (leBytes 8 (s.serial b).toNat ++ [byte (joltOutcomeCode outcome)]) ∧
        t.notices.news = s.notices.news ||| newsBay ||| s.postNews ∧
        Kept [.clock, .bay b, .link, .impact, .noticeList, .news, .attention] s t ∧
        BytesKept [bayArea b, impactArea, noticeArea s] s t
    (same → ∃ t, exec c s = .next t ∧ t.bay b = onlineAgain (s.bay b) t.clock ∧ ArbitratedWith s t b .gauge ∧
      ended t .restored) ∧
    (¬ same → ∃ t, exec c s = .next t ∧
      t.bay b = { s.bay b with
        state := .reading, pathClosed := false, descriptor := none, gauge := none, stale := false, failedPolls := 0
        barred := none, seatingTimer := none, pollDue := none, jolt := none } ∧
      ArbitratedWith s t b (.identFull []) ∧ ended t .lost)

/-- BUTTON_CHANGE starts the 50 ms press timer, discards a press that breaks, and clears the release-wait mark.
PRESS_TIMER_EXPIRY takes the press: a request that fails a check posts RELEASE_REFUSED with the granted flag clear, and
any other is granted to BUTTON (R76, R77, R79). Whether the other bay may carry follows its gauge-stale mark (assumption
log 45). The clock's move to the deadline is the model's choice (assumption log 1). -/
def Obligations.ButtonsRequestReleases : Prop :=
  ∀ (b : Bay) (s : State), s.LinesHold → s.Shaped →
    (∀ pressed : Bool,
      ∃ t, exec (.buttonChange b pressed) s = .next t ∧ t.bayPins b = { s.bayPins b with button := pressed } ∧
        t.bayPins (otherBay b) = s.bayPins (otherBay b) ∧
        t.bay b = (if pressed = false then { s.bay b with pressTimer := none, releaseWait := false }
          else if (s.bay b).releaseWait = true ∨ (s.bay b).pressTimer.isSome = true then s.bay b
          else { s.bay b with pressTimer := some (s.clock + ms 50) }) ∧
        Kept [.pins, .bay b] s t ∧ BytesKept [bayArea b] s t) ∧
    ∀ till : Instant, (s.bay b).pressTimer = some till →
      (∀ (r : Reason) (v : Nat × Nat), refusalOf s b = some (r, v) →
        ∃ t, exec (.pressTimerExpiry b) s = .next t ∧ t.clock = max s.clock till ∧
          t.bay b = { s.bay b with pressTimer := none, releaseWait := true } ∧
          Posted s t .releaseRefused (some b) 0
            (leBytes 8 (s.serial b).toNat ++ [byte (reasonCode r)] ++ leBytes 4 v.1 ++ leBytes 4 v.2) ∧
          t.notices.news = s.notices.news ||| s.postNews ∧
          Kept [.clock, .bay b, .noticeList, .news, .attention] s t ∧ BytesKept [bayArea b, noticeArea s] s t) ∧
      (refusalOf s b = none → (s.bay (otherBay b)).latch ≠ .opening → (s.bay (otherBay b)).latch ≠ .opened →
        s.holds.holds (.latch (otherBay b)) .swap = false →
        ∃ t, exec (.pressTimerExpiry b) s = .next t ∧ t.clock = max s.clock till ∧ Granted s t b .button ∧
          (t.bay b).releaseWait = true ∧ (t.bay b).pressTimer = none ∧
          Kept [.clock, .swap, .bay b, .power, .holds, .news, .attention] s t ∧
          BytesKept [sourcesArea, bayArea .a, bayArea .b, holdArea] s t)

/-! ### Latches and the stages of a release -/

/-- On a bay that is not RELEASING: a reading of the latch sensor acts by the latch state; an open that is not
confirmed is driven closed, a close that is not confirmed is STUCK, each with LATCH_FAULT; and a retry restarts its 2
s with no notice (R72, R73, R74, R75). The clock's move to the deadline is the model's choice (assumption log 1). A
latch reversed while its sensor reads closed waits for the sensor's next change (assumption log 42). -/
def Obligations.LatchTravels : Prop :=
  ∀ (b : Bay) (s : State), s.LinesHold → (s.bay b).state ≠ .releasing →
    (∀ reading : LatchReading,
      ∃ t, exec (.latchSensorChange b reading) s = .next t ∧ t.bayPins b = { s.bayPins b with latch := reading } ∧
        t.bayPins (otherBay b) = s.bayPins (otherBay b) ∧
        t.bay b =
          (if reading = .closed then
            (if (s.bay b).latch = .closed ∨ (s.bay b).latch = .opening then s.bay b
              else { s.bay b with latch := .closed, latchTimer := none })
          else if (s.bay b).latch = .closed then
            { s.bay b with latch := .closing, latchTimer := some (s.clock + ms 400) }
          else if reading = .opened ∧ (s.bay b).latch = .opening then
            { s.bay b with latch := .opened, latchTimer := none }
          else s.bay b) ∧
        t.notices.news = s.notices.news ||| (if (t.bay b).latch = (s.bay b).latch then 0 else newsBay) ∧
        Kept [.pins, .bay b, .news, .attention] s t ∧ BytesKept [bayArea b] s t) ∧
    ∀ till : Instant, (s.bay b).latchTimer = some till →
      ((s.bay b).latch = .opening →
        ∃ t, exec (.openConfirmExpiry b) s = .next t ∧ t.clock = max s.clock till ∧
          t.bay b = { s.bay b with latch := .closing, latchTimer := some (t.clock + ms 400) } ∧
          Posted s t .latchFault (some b) 0
            (leBytes 8 (s.serial b).toNat ++ [byte (directionCode .toOpen), byte (latchCode .closing)]) ∧
          t.notices.news = s.notices.news ||| newsBay ||| s.postNews ∧
          Kept [.clock, .bay b, .noticeList, .news, .attention] s t ∧ BytesKept [bayArea b, noticeArea s] s t) ∧
      ((s.bay b).latch = .closing →
        ∃ t, exec (.closeConfirmExpiry b) s = .next t ∧ t.clock = max s.clock till ∧
          t.bay b = { s.bay b with latch := .stuck, latchTimer := some (t.clock + ms 2000) } ∧
          Posted s t .latchFault (some b) 0
            (leBytes 8 (s.serial b).toNat ++ [byte (directionCode .toClose), byte (latchCode .stuck)]) ∧
          t.notices.news = s.notices.news ||| newsBay ||| s.postNews ∧
          Kept [.clock, .bay b, .noticeList, .news, .attention] s t ∧ BytesKept [bayArea b, noticeArea s] s t) ∧
      ((s.bay b).latch = .stuck →
        ∃ t, exec (.retryTimerExpiry b) s = .next t ∧ t.clock = max s.clock till ∧
          t.bay b = { s.bay b with latchTimer := some (t.clock + ms 2000) } ∧
          Kept [.clock, .bay b] s t ∧ BytesKept [bayArea b] s t)

/-- The stages of a release: the switching timer drives the latch open, the sensor's open begins WAITING for the
removal window, the window's end and an open that is not confirmed relatch it, and the sensor's closed, or a close
that is not confirmed, brings the bay back ONLINE and reports the end to its requester, the slot that asked or the
button; the sensor's closed in WAITING ends the release at once ABORTED LATCH_FAULT. A drive to open that meets a latch
which is not CLOSED fails: the release relatches with LATCH_FAULT, or, its latch STUCK, ends at once so (R20, R72, R74,
R80, R81, R82, R83, R84, R85). The clock's move to the deadline is the model's choice (assumption log 1). The answer's bay and latch
states are those after the end (assumption log 14). A latch reversed while its sensor reads closed waits for the
sensor's next change (assumption log 42). -/
def Obligations.ReleaseStages : Prop :=
  ∀ s : State, s.LinesHold → s.Shaped → s.ReleaseAgrees → s.link.Agrees → ∀ w : SwapContext, s.swap = some w →
    let x := w.bay
    let relatched := relatchedFor w
    (∀ till : Instant, w.switchingTimer = some till → (s.bay x).latch = .closed →
      ∃ t, exec .switchingTimerExpiry s = .next t ∧ t.clock = max s.clock till ∧
        t.swap = some { w with phase := .unlatching, switchingTimer := none } ∧
        t.bay x = { s.bay x with latch := .opening, latchTimer := some (t.clock + ms 400) } ∧
        t.notices.news = s.notices.news ||| newsBay ∧
        Kept [.clock, .swap, .bay x, .news, .attention] s t ∧ BytesKept [bayArea x] s t) ∧
    (∀ till : Instant, w.switchingTimer = some till → (s.bay x).latch ≠ .closed → (s.bay x).latch ≠ .stuck →
      ∃ t, exec .switchingTimerExpiry s = .next t ∧ t.clock = max s.clock till ∧ t.swap = some (relatched .latchFault) ∧
        t.bay x = drivenClosedAt (s.bay x) t.clock ∧ t.notices.news = s.notices.news ||| newsBay ∧
        Kept [.clock, .swap, .bay x, .news, .attention] s t ∧ BytesKept [bayArea x] s t) ∧
    (w.phase = .unlatching → (s.bay x).latch = .opening →
      ∃ t, exec (.latchSensorChange x .opened) s = .next t ∧
        t.swap = some { w with phase := .waiting, windowTimer := some (s.clock + ms (1000 * s.swapWindow)) } ∧
        t.bay x = { s.bay x with latch := .opened, latchTimer := none } ∧
        t.notices.news = s.notices.news ||| newsBay ∧
        Kept [.pins, .swap, .bay x, .news, .attention] s t ∧ BytesKept [bayArea x] s t) ∧
    (∀ till : Instant, (s.bay x).latchTimer = some till → w.phase = .unlatching → (s.bay x).latch = .opening →
      ∃ t, exec (.openConfirmExpiry x) s = .next t ∧ t.clock = max s.clock till ∧
        t.swap = some (relatched .latchFault) ∧
        t.bay x = { s.bay x with latch := .closing, latchTimer := some (t.clock + ms 400) } ∧
        Posted s t .latchFault (some x) 0
          (leBytes 8 (s.serial x).toNat ++ [byte (directionCode .toOpen), byte (latchCode .closing)]) ∧
        t.notices.news = s.notices.news ||| newsBay ||| s.postNews ∧
        Kept [.clock, .swap, .bay x, .noticeList, .news, .attention] s t ∧ BytesKept [bayArea x, noticeArea s] s t) ∧
    (∀ till : Instant, w.windowTimer = some till → (s.bay x).latch = .opened →
      ∃ t, exec .windowTimerExpiry s = .next t ∧ t.clock = max s.clock till ∧ t.swap = some (relatched .expired) ∧
        t.bay x = { s.bay x with latch := .closing, latchTimer := some (t.clock + ms 400) } ∧
        t.notices.news = s.notices.news ||| newsBay ∧
        Kept [.clock, .swap, .bay x, .news, .attention] s t ∧ BytesKept [bayArea x] s t) ∧
    (w.phase = .relatching → ((s.bay x).latch = .closing ∨ (s.bay x).latch = .stuck) →
      ∃ t, exec (.latchSensorChange x .closed) s = .next t ∧ t.swap = none ∧
        t.bay x = { s.bay x with
          state := .online, latch := .closed, latchTimer := none, pathClosed := true
          pollDue := some (s.clock + ms 1000), jolt := none } ∧
        (if s.link.hasGauge x then t.link = s.link else Joined s t x .gauge) ∧
        t.holds.entries = s.holds.entries.filter (fun e => !decide (e.kind = .latch (otherBay x) ∧ e.owner = .swap)) ∧
        (∀ r : AbortReason, w.abortReason = some r → w.cancelRequested = false → w.requester = .button →
          (if r = .expired then
            Posted s t .releaseExpired (some x) 0 (leBytes 8 (s.serial x).toNat ++ [byte (carrierCode w.carrier)])
          else
            Posted s t .releaseRefused (some x) 1
              (leBytes 8 (s.serial x).toNat ++ [byte (reasonCode (abortReasonOf r))] ++ leBytes 4 w.need ++
                leBytes 4 w.best)) ∧
          t.notices.news = s.notices.news ||| newsBay ||| s.postNews ∧
          Kept [.pins, .swap, .bay x, .holds, .link, .noticeList, .news, .attention] s t ∧
          BytesKept [bayArea .a, bayArea .b, holdArea, noticeArea s] s t) ∧
        ∀ k : Nat, w.cancelRequested = true → w.requester = .slot k (s.acceptanceOf k) → k < 24 →
          s.slotOwner k = ownerAccepted →
          t.Answered k .cancelled .none
            ([byte (bayCode x), byte (bayStateCode .online), byte (latchCode .closed), byte (carrierCode w.carrier),
              byte (phaseCode .relatching), byte (flagBit 1 w.pathReclosed), 0, 0] ++ leBytes 4 w.need ++
              leBytes 4 w.best) ∧
          t.notices.news = s.notices.news ||| newsBay ||| s.answerNews k ∧
          Kept [.pins, .swap, .bay x, .holds, .link, .news, .attention] s t ∧
          BytesKept ([bayArea .a, bayArea .b, holdArea] ++ answerAreas k) s t) ∧
    let ended := fun (t : State) (v : SwapContext) (e : ReleaseEnd) (c : BayContext) (before : List Post) =>
      t.swap = none ∧ t.bay x = onlineAgain c t.clock ∧ PollJoined s t x ∧
        t.holds.entries = withoutSwap w s.holds.entries ∧ EndReported s t v e before ∧
        t.notices.news = s.notices.news ||| newsBay ||| s.endBits w |||
          s.postBits (before ++ endPosts v (s.serial x) e false).length ∧
        BytesKept ([bayArea .a, bayArea .b, holdArea] ++ endAreas w) s t
    let parts : List Part := [.swap, .bay x, .holds, .link, .noticeList, .news, .attention]
    (∀ k n : Nat, w.requester = .slot k n → k < 24) →
    (w.phase = .relatching → ((s.bay x).latch = .closing ∨ (s.bay x).latch = .stuck) →
      ∃ t, exec (.latchSensorChange x .closed) s = .next t ∧ Kept (.pins :: parts) s t ∧
        ended t w (fixedEndOf w) { s.bay x with latch := .closed, latchTimer := none } []) ∧
    (∀ till : Instant, (s.bay x).latchTimer = some till → w.phase = .relatching → (s.bay x).latch = .closing →
      ∃ t, exec (.closeConfirmExpiry x) s = .next t ∧ t.clock = max s.clock till ∧ Kept (.clock :: parts) s t ∧
        ended t w (fixedEndOf w) { s.bay x with latch := .stuck, latchTimer := some (t.clock + ms 2000) }
          [⟨.latchFault, some x, 0,
            leBytes 8 (s.serial x).toNat ++ [byte (directionCode .toClose), byte (latchCode .stuck)]⟩]) ∧
    (∀ till : Instant, w.switchingTimer = some till → (s.bay x).latch = .stuck →
      ∃ t, exec .switchingTimerExpiry s = .next t ∧ t.clock = max s.clock till ∧ Kept (.clock :: parts) s t ∧
        ended t (relatched .latchFault) (.aborted .latchFault) (s.bay x) []) ∧
    (w.phase = .waiting → (s.bay x).latch = .opened →
      ∃ t, exec (.latchSensorChange x .closed) s = .next t ∧ Kept (.pins :: parts) s t ∧
        ended t (relatched .latchFault) (.aborted .latchFault) { s.bay x with latch := .closed, latchTimer := none } [])

/-! ### Power -/

/-- DC_PRESENT_CHANGE starts, keeps or removes the 50 ms debounce. DC_DEBOUNCE_EXPIRY takes the level: PRESENT with
the class and rating read then, or ABSENT with every allocation 0 mW and, for a release that DC carries, the carry
check run again; with no carrier left and the latch CLOSED, as in SWITCHING, the release ends at once ABORTED CARRIER_LOST.
RAIL_SAMPLE holds the last ten samples, each clamped (R47, R48, R49, R50, R83, R84, R85, R90, R91). The clock's move
to the deadline is the model's choice (assumption log 1). A latch reversed while its sensor reads closed waits for the
sensor's next change (assumption log 42). The states in the answer of an end are assumption log 14, and a carrier's
gauge-stale mark log 45. -/
def Obligations.AdapterAndRail : Prop :=
  ∀ s : State, s.LinesHold →
    (∀ level : Bool,
      ∃ t, exec (.dcPresentChange level) s = .next t ∧ t.pins = { s.pins with dcPresent := level } ∧
        t.power = { s.power with
          debounce := if level = s.power.dc.isSome then none
            else if s.power.debounce.isSome then s.power.debounce
            else some { timer := s.clock + ms 50, level := level } } ∧
        Kept [.pins, .power] s t ∧ BytesKept [] s t) ∧
    (∀ milliwatts : Int,
      ∃ t, exec (.railSample milliwatts) s = .next t ∧ t.clock = max s.clock s.power.railDue ∧
        t.power = { s.power with
          samples := (s.power.samples ++ [(max 0 (min 150000 milliwatts)).toNat]).drop ((s.power.samples.length + 1) - 10)
          railDue := s.power.railDue + ms 10 } ∧
        Kept [.clock, .power] s t ∧ BytesKept [] s t) ∧
    ∀ (id : DcClass) (d : Debounce), s.power.debounce = some d →
      let absent : PowerUnit := { s.power with debounce := none, dc := none, chargeBridge := 0, chargeA := 0, chargeB := 0 }
      (d.level = true →
        ∃ t, exec (.dcDebounceExpiry id) s = .next t ∧ t.clock = max s.clock d.timer ∧
          t.power = { s.power with debounce := none, dc := some id } ∧
          t.power.dcRating = (if id = .c90 then 90000 else if id = .c65 then 65000 else 45000) ∧
          t.notices.news = s.notices.news ||| newsPower ∧
          Kept [.clock, .power, .news, .attention] s t ∧ BytesKept [sourcesArea] s t) ∧
      (d.level = false → (∀ w : SwapContext, s.swap = some w → w.carrier ≠ .dc ∨ w.pathReclosed = true) →
        ∃ t, exec (.dcDebounceExpiry id) s = .next t ∧ t.clock = max s.clock d.timer ∧ t.power = absent ∧
          t.notices.news = s.notices.news ||| newsPower ∧
          Kept [.clock, .power, .news, .attention] s t ∧ BytesKept [sourcesArea] s t) ∧
      (d.level = false → ∀ w : SwapContext, s.swap = some w → w.carrier = .dc → w.pathReclosed = false →
        (s.bay w.bay).state = .releasing →
        ∃ t, exec (.dcDebounceExpiry id) s = .next t ∧ t.clock = max s.clock d.timer ∧ t.power = absent ∧
          (¬ LossEnds s t w → CarrierChecked s t w ∧ t.notices.news = s.notices.news ||| newsPower ||| newsBay ∧
            Kept [.clock, .power, .swap, .bay w.bay, .news, .attention] s t ∧
            BytesKept [sourcesArea, bayArea w.bay] s t) ∧
          (LossEnds s t w → s.link.Agrees → s.AsksAlone w →
            let v := relatchedFor (reclosedAt w t) .carrierLost
            EndedAtOnce s t w v .carrierLost ∧ t.holds.entries = withoutSwap w s.holds.entries ∧ PollJoined s t w.bay ∧
            PostedMany s t (abortPosts s v .carrierLost) ∧
            t.notices.news = s.notices.news ||| newsPower ||| newsBay ||| s.endBits w |||
              s.postBits (abortPosts s v .carrierLost).length ∧
            Kept [.clock, .power, .swap, .bay w.bay, .holds, .link, .noticeList, .news, .attention] s t ∧
            BytesKept ([sourcesArea, bayArea w.bay, holdArea] ++ endAreas w) s t))

/-- BUDGET_STEP: the figures of its stages; a fall of W_bl caps the luminance at once; its notices, appended while the list
has room and deferred beyond; HIBERNATE_REQUEST with the bridge-critical mark; and the test of a release that the bridge
carries, which stays, takes another carrier, relatches, or, with the latch CLOSED as in SWITCHING, ends at once ABORTED
CARRIER_LOST, its notice between the step's warnings and SOURCE_CHANGE (R51 to R61, R63, R67, R91, R124). The clock's move
to the deadline is the model's choice (assumption log 1). The order of the step's notices is that of its stages
(assumption log 26). A latch reversed while its sensor reads closed waits for the sensor's next change (assumption log
42). The rating class of SOURCE_CHANGE is 0 while the DC state is ABSENT (assumption log 40). The states in the answer of
an end are assumption log 14, and a carrier's gauge-stale mark log 45. -/
def Obligations.BudgetStepAccounts : Prop :=
  ∀ s : State, s.LinesHold → s.notices.Ordered → s.EpisodeAgrees →
    let stepped := fun (t : State) (posts : List Post) (news : Byte) (parts : List Part) (areas : List Area) =>
      PostedMany s t posts ∧
      t.notices.news = s.notices.news ||| s.postBits posts.length ||| budgetNews s t ||| news ∧
      Kept (parts ++ [.clock, .power, .hibernate, .bright, .noticeList, .news, .attention]) s t ∧
      BytesKept (areas ++ [sourcesArea, brightArea, noticesArea]) s t
    let figures := fun (t : State) =>
      t.clock = max s.clock s.power.budgetDue ∧ BudgetFigures s t ∧
      t.power.hibernate = (t.power.critical && (s.power.platform != .off)) ∧
      (let limit := (t.power.allowance - 300) / 7
       t.bright = (if t.power.allowance ≠ s.power.allowance ∧ s.bright.display = true ∧ limit < s.bright.c then
          { s.bright with c := limit, duty := (limit * 4095 + 700) / 1400 } else s.bright))
    ((∀ w : SwapContext, s.swap = some w → w.carrier ≠ .bridge ∨ w.pathReclosed = true) →
      ∃ t, exec .budgetStep s = .next t ∧ figures t ∧ stepped t (bridgePosts s t ++ sourcePosts s t) 0 [] []) ∧
    ∀ w : SwapContext, s.swap = some w → w.carrier = .bridge → w.pathReclosed = false →
      (s.bay w.bay).state = .releasing →
      ∃ t, exec .budgetStep s = .next t ∧ figures t ∧
        let carries := loadNeed t ≤ 12000 ∧ loadNeed t * (s.swapWindow + 15) ≤ t.power.bridgeEnergy
        (carries → stepped t (bridgePosts s t ++ sourcePosts s t) 0 [] []) ∧
        (¬ carries → ¬ LossEnds s t w →
          CarrierChecked s t w ∧
            stepped t (bridgePosts s t ++ sourcePosts s t) newsBay [.swap, .bay w.bay] [bayArea w.bay]) ∧
        (¬ carries → LossEnds s t w → s.link.Agrees → s.AsksAlone w →
          let v := relatchedFor (reclosedAt w t) .carrierLost
          EndedAtOnce s t w v .carrierLost ∧ t.holds.entries = withoutSwap w s.holds.entries ∧ PollJoined s t w.bay ∧
          stepped t (bridgePosts s t ++ abortPosts s v .carrierLost ++ sourcePosts s t) (newsBay ||| s.endBits w)
            [.swap, .bay w.bay, .holds, .link] ([bayArea w.bay, holdArea] ++ endAreas w))

/-! ### Brightness -/

/-- BRIGHTNESS_STEP: the sensors with their fault marks, E, the filter, the curve, the mode, the three limits and the
goal, the cap, the slew and the duty, held by the freeze and the display as the rules say, and BRIGHT_LIMITED when heat
or power becomes the limiter (R109 to R120, R125). The clock's move to the deadline is the model's choice (assumption
log 1). -/
def Obligations.BrightnessStepMoves : Prop :=
  ∀ (front top : AmbientReading) (panel : PanelReading) (s : State), s.LinesHold → s.BrightBound →
    ∃ t, exec (.brightnessStep front top panel) s = .next t ∧ t.clock = max s.clock s.bright.stepDue ∧
      (∀ lux : Int, front = .valid lux →
        (t.bright.front : Int) = max 0 (min 120000 lux) ∧ t.bright.frontFault = false) ∧
      (front = .missing → t.bright.front = s.bright.front ∧ t.bright.frontFault = true) ∧
      (∀ lux : Int, top = .valid lux → (t.bright.top : Int) = max 0 (min 120000 lux) ∧ t.bright.topFault = false) ∧
      (top = .missing → t.bright.top = s.bright.top ∧ t.bright.topFault = true) ∧
      (∀ c : Int, panel = .valid c →
        t.bright.panel = max (-40) (min 105 c) ∧ t.bright.panelFault = false ∧ t.bright.panelOpen = false) ∧
      (panel = .openCircuit → t.bright.panel = 85 ∧ t.bright.panelFault = false ∧ t.bright.panelOpen = true) ∧
      (panel = .missing →
        t.bright.panel = s.bright.panel ∧ t.bright.panelFault = true ∧ t.bright.panelOpen = s.bright.panelOpen) ∧
      t.bright.ambient = max t.bright.front (t.bright.top / 4) ∧
      (let target := t.bright.ambient * 16
       t.bright.a16 = (if s.bright.frozen then s.bright.a16
        else if s.bright.a16 < target then s.bright.a16 + (target - s.bright.a16 + 1) / 2
        else s.bright.a16 - (s.bright.a16 - target + 15) / 16)) ∧
      (2 ≤ s.bright.curve.length → RisingTo s.bright.curve (s.bright.curve.length - 1) →
        OnCurve s.bright.curve (t.bright.a16 / 16) t.bright.t0) ∧
      (s.bright.mode = .auto →
        (t.bright.t1 : Int) = max 20 (min 1400 ((t.bright.t0 : Int) * (100 + s.bright.offset) / 100))) ∧
      (s.bright.mode = .manual → t.bright.t1 = s.bright.manual) ∧
      (s.bright.mode = .night → t.bright.t1 = max 20 (min 40 s.bright.manual)) ∧
      (t.bright.panel ≤ 60 → t.bright.lTherm = 1400) ∧
      (60 < t.bright.panel → t.bright.panel < 85 → (t.bright.lTherm : Int) = 1400 - (t.bright.panel - 60) * 40) ∧
      (85 ≤ t.bright.panel → t.bright.lTherm = 400) ∧
      t.bright.lPower = (s.power.allowance - 300) / 7 ∧
      t.bright.goal = min t.bright.t1 (min t.bright.lTherm t.bright.lPower) ∧
      t.bright.limitedBy = (if s.bright.display = false then .none
        else if t.bright.t1 = t.bright.goal then .curve
        else if t.bright.lTherm = t.bright.goal then .thermal else .power) ∧
      (s.bright.display = false → t.bright.c = 20 ∧ t.bright.duty = 0) ∧
      (s.bright.display = true →
        (s.bright.frozen = true → t.bright.c = s.bright.c) ∧
        (s.bright.frozen = false → s.bright.c ≤ t.bright.goal →
          t.bright.c = s.bright.c + min 60 (t.bright.goal - s.bright.c)) ∧
        (s.bright.frozen = false → t.bright.goal < s.bright.c →
          t.bright.c = s.bright.c - min 20 (s.bright.c - t.bright.goal)) ∧
        t.bright.duty = (t.bright.c * 4095 + 700) / 1400) ∧
      t.bright = { t.bright with
        curve := s.bright.curve, mode := s.bright.mode, offset := s.bright.offset, manual := s.bright.manual
        displaySetting := s.bright.displaySetting, display := s.bright.display, frozen := s.bright.frozen
        stepDue := s.bright.stepDue + ms 100 } ∧
      (if t.bright.limitedBy ≠ s.bright.limitedBy ∧ (t.bright.limitedBy = .thermal ∨ t.bright.limitedBy = .power) then
        Posted s t .brightLimited none 0
          ([byte (limiterCode t.bright.limitedBy), byte (limiterCode s.bright.limitedBy)] ++ leBytes 2 t.bright.goal ++
            leBytes 2 t.bright.t1 ++ leBytes 2 t.bright.lTherm ++ leBytes 2 t.bright.lPower ++ leBytes 2 t.bright.c ++
            leSigned 2 t.bright.panel ++ leBytes 4 s.power.allowance) ∧
        t.notices.news = s.notices.news ||| s.postNews ∧
        Kept [.clock, .bright, .noticeList, .news, .attention] s t ∧ BytesKept [brightArea, noticeArea s] s t
      else Kept [.clock, .bright] s t ∧ BytesKept [brightArea] s t)

/-! ### The drop monitor -/

/-- ACCEL_SAMPLE, each sample that begins and ends no fall: by the monitor state it counts, breaks a run, gathers the
peak of the window, or counts a bounce into the target record, with the missing count 0 and the next sample due 1.25 ms
on; a new bounce rewrites the live page section, whether the record takes it or not (R135, R138, R141, R142, R144, R146,
R149, R156, R160). That a bounce which the record does not take, or at which its count stands at 255, rewrites the section
is the model's choice (assumption log 7), and so is the clock's move to the deadline (assumption log 1). -/
def Obligations.SamplesAreJudged : Prop :=
  ∀ (a : Accel) (s : State), s.LinesHold → s.Shaped → ∀ due : Instant, s.drop.sampleDue = some due →
    let d : DropMonitor := { s.drop with missing := 0, sampleDue := some (due + 5) }
    let becomes := fun (d : DropMonitor) =>
      ∃ t, exec (.accelSample a) s = .next t ∧ t.clock = max s.clock due ∧ t.drop = d ∧ Kept [.clock, .drop] s t ∧
        BytesKept [dropArea] s t
    (s.drop.state = .quiet → s.drop.n = none → s.drop.r = none →
      (s.Low a → becomes { d with state := .suspect, n := some 1 }) ∧
      (¬ s.Low a → ¬ s.Strike a → becomes d)) ∧
    (s.drop.state = .suspect → s.drop.r = none → ∀ n : Nat, s.drop.n = some n →
      (s.Low a → n + 1 < s.drop.thresholds.run → becomes { d with n := some (n + 1) }) ∧
      (¬ s.Low a → ¬ s.Strike a → becomes { d with state := .quiet, n := none })) ∧
    (s.drop.state = .falling → ∀ n : Nat, s.drop.n = some n → ∀ r : Nat, s.drop.r = some r →
      (s.Low a → ¬ s.High a → becomes { d with n := some (min 2047 (n + 1)), r := some 0 }) ∧
      (¬ s.Low a → ¬ s.High a → r + 1 < 8 → becomes { d with n := some (min 2047 (n + 1)), r := some (r + 1) })) ∧
    (s.drop.state = .impact → ∀ w : ImpactWindow, s.drop.window = some w → w.count < 15 →
      becomes { d with window := some (windowNext w (some a)) }) ∧
    (s.drop.state = .settling → ∀ g : Settling, s.drop.settling = some g →
      (¬ s.Low a → ¬ s.High a → becomes { d with settling := some { g with q := 0, inBounce := false } }) ∧
      (s.Low a → ¬ s.High a → g.q + 1 < s.drop.thresholds.run →
        becomes { d with settling := some { g with q := g.q + 1, inBounce := false } }) ∧
      (s.High a →
        ∃ t, exec (.accelSample a) s = .next t ∧ t.clock = max s.clock due ∧
          t.drop = { d with
            settling := some { g with
              settleTimer := t.clock + ms s.drop.thresholds.settle, q := 0, inBounce := true } } ∧
          (∀ r : ImpactRecord, s.impact.record g.target = some r → r.isOpen = true →
            ∃ q : ImpactRecord, t.impact.record g.target = some q ∧
              q.bounces = (if g.inBounce then r.bounces else min 255 (r.bounces + 1)) ∧
              q.peakM = max r.peakM (magnitude a) ∧ q.clipped = (r.clipped || clippedSample a) ∧
              (r.peakM < magnitude a →
                Dominates (heldSample a) q.axis ∧ PeakOf q.peakM q.clipped q.peak q.severity) ∧
              (magnitude a ≤ r.peakM → q.peak = r.peak ∧ q.axis = r.axis ∧
                q.severity = if clippedSample a then .severe else r.severity) ∧
              q = { r with
                bounces := q.bounces, peakM := q.peakM, peak := q.peak, axis := q.axis, clipped := q.clipped
                severity := q.severity }) ∧
          (∀ i, i ≠ g.target → t.impact.record i = s.impact.record i) ∧
          (s.port.held = false → g.inBounce = false → Shows t.port.memory dropArea (dropBody t.drop)) ∧
          Kept [.clock, .drop, .impact] s t ∧ BytesKept [dropArea, impactArea] s t))

/-- MISSING_SAMPLE raises the missing count and acts by the monitor state: n still counts in FALLING, and the window in
IMPACT. SENSOR_LOSS, and the missing sample that is the fourth, puts the monitor in OFFLINE with its samples stopped,
SENSOR_FAULT, and out of a fall the sensor-lost marks and the guard tail, in IMPACT after the window is recorded as it
stands (R136, R147, R148, R152, R159). The clock's move to the deadline is the model's choice (assumption log 1). A fold's
clipped mark and its notice follow assumption log 27 and 28, and an opening that finds no place log 29. -/
def Obligations.SensorIsLost : Prop :=
  ∀ s : State, s.LinesHold → s.Shaped → ∀ due : Instant, s.drop.sampleDue = some due →
    let d : DropMonitor := { s.drop with missing := s.drop.missing + 1, sampleDue := some (due + 5) }
    let becomes := fun (d : DropMonitor) =>
      ∃ t, exec .missingSample s = .next t ∧ t.clock = max s.clock due ∧ t.drop = d ∧ Kept [.clock, .drop] s t ∧
        BytesKept [dropArea] s t
    (s.drop.missing < 3 →
      ((s.drop.state = .quiet ∨ s.drop.state = .suspect ∨ s.drop.state = .settling) → becomes d) ∧
      (s.drop.state = .falling → ∀ n : Nat, s.drop.n = some n → becomes { d with n := some (min 2047 (n + 1)) }) ∧
      (s.drop.state = .impact → ∀ w : ImpactWindow, s.drop.window = some w → w.count < 15 →
        becomes { d with window := some (windowNext w none) })) ∧
    ∀ c : Instr, (c = .sensorLoss ∨ c = .missingSample) → s.drop.missing = 3 →
      let fault := fun (t : State) (parts : List Part) (areas : List Area) =>
        t.clock = max s.clock due ∧ t.drop.state = .offline ∧ t.drop.missing = 4 ∧ t.drop.n = none ∧ t.drop.r = none ∧
          t.drop.sampleDue = none ∧ t.drop.episode = s.drop.episode ∧
          Posted s t .sensorFault none (if t.drop.guardTail.isSome then 1 else 0)
            [byte (monitorCode s.drop.state), byte 4] ∧
          t.notices.news = s.notices.news ||| s.postNews ∧
          Kept (parts ++ [.clock, .drop, .noticeList, .news, .attention]) s t ∧
          BytesKept (areas ++ [dropArea, noticeArea s]) s t
      ((s.drop.state = .quiet ∨ s.drop.state = .suspect) →
        ∃ t, exec c s = .next t ∧ t.drop.guardTail = s.drop.guardTail ∧ fault t [] []) ∧
      ((s.drop.state = .falling ∨ s.drop.state = .settling) →
        ∃ t, exec c s = .next t ∧ t.drop.guardTail = some (s.drop.guardTail.getD (t.clock + ms 500)) ∧
          (s.drop.state = .settling → t.drop.settling = none) ∧
          (∀ q ∈ s.drop.records ++ s.drop.settling.toList.map (·.target), s.drop.state = .settling ∨ q ∈ s.drop.records →
            ∀ r : ImpactRecord, s.impact.record q = some r → r.isOpen = true →
              t.impact.record q = some { r with sensorLost := true }) ∧
          fault t [.impact] [impactArea]) ∧
      ∀ w : ImpactWindow, s.drop.window = some w → s.drop.state = .impact →
        ∃ t, exec c s = .next t ∧ t.clock = max s.clock due ∧
          t.drop = { s.drop with
            state := .offline, missing := 4, n := none, r := none, sampleDue := none, window := none
            episode := t.drop.episode, guardTail := some (s.drop.guardTail.getD (t.clock + ms 500)) } ∧
          WindowCut s t w [⟨.sensorFault, none, 1, [byte (monitorCode .impact), byte 4]⟩] ∧
          t.notices.news = s.notices.news ||| newsImpact ||| s.postBits 2 ∧
          Kept [.clock, .drop, .impact, .noticeList, .news, .attention] s t ∧
          BytesKept [dropArea, impactArea, noticesArea] s t

/-- A fall or a strike begins: FALLING after the minimum run of low samples with FALL_START, IMPACT at a strike sample
or at the high sample of a fall. The FALL entries are added when none stands, the latches are driven closed, the
brightness freezes, a release relatches, or, with its latch CLOSED as in SWITCHING, ends at once ABORTED FALL with the bay
ONLINE, and a guard tail ends with its episode continued. In SETTLING the minimum run of low samples is FALLING again,
with FALL_START continued and nothing handed to the hold set (R84, R85, R89, R96, R97, R102, R104, R131, R143, R144,
R146, R150). The clock's move to the deadline is the model's choice
(assumption log 1). A latch reversed while its sensor reads closed waits for the sensor's next change (assumption log
42). The states in the answer of an end are assumption log 14, and that the end's notice comes before FALL_START log 26. -/
def Obligations.FallsBegin : Prop :=
  (∀ (a : Accel) (s : State), s.LinesHold → s.Shaped → ∀ due : Instant, s.drop.sampleDue = some due →
    ∀ (g : Settling) (e : Episode), s.drop.state = .settling → s.drop.settling = some g → s.drop.episode = some e →
    s.Low a → ¬ s.High a → s.drop.thresholds.run ≤ g.q + 1 →
    let n := g.q + 1
    ∃ t, exec (.accelSample a) s = .next t ∧ t.clock = max s.clock due ∧
      t.drop = { s.drop with
        missing := 0, sampleDue := some (due + 5), state := .falling, n := some n, r := some 0, settling := none
        episode := some { e with continued := true } } ∧
      Posted s t .fallStart none 1
        (leBytes 2 n ++ leBytes 2 ((n * n * 7661 + 500000) / 1000000) ++ [byte e.records.length]) ∧
      t.notices.news = s.notices.news ||| s.postNews ∧ Kept [.clock, .drop, .noticeList, .news, .attention] s t ∧
      BytesKept [dropArea, noticeArea s] s t) ∧
  ∀ (a : Accel) (s : State), s.LinesHold → s.Shaped → ∀ due : Instant, s.drop.sampleDue = some due →
    let d : DropMonitor := { s.drop with missing := 0, sampleDue := some (due + 5), guardTail := none }
    let kept := fun (e : Option Episode) => (match e with
      | none => some { records := [], continued := false }
      | some e => some { e with continued := true } : Option Episode)
    let closed := fun (t : State) (b : Bay) =>
      if ((s.bay b).latch = .opening ∨ (s.bay b).latch = .opened) ∧ s.holds.inForce (.latch b) = false then
        { s.bay b with latch := .closing, latchTimer := some (t.clock + ms 400) } else s.bay b
    let held := fun (t : State) => t.clock = max s.clock due ∧
      t.bay .a = closed t .a ∧ t.bay .b = closed t .b ∧ t.bright = { s.bright with frozen := true } ∧
      (s.NoFall → t.holds.entries = s.holds.entries ++ fallEntries t) ∧ (s.AllFall → t.holds.entries = s.holds.entries) ∧
      (∀ w : SwapContext, s.swap = some w → w.phase ≠ .relatching → s.holds.inForce (.latch w.bay) = false →
        t.swap = some (relatchedFor w .fall)) ∧
      (∀ w : SwapContext, s.swap = some w → (w.phase = .relatching ∨ s.holds.inForce (.latch w.bay) = true) →
        t.swap = s.swap)
    let parts : List Part := [.clock, .drop, .holds, .storageGuard, .bright, .bay .a, .bay .b, .swap, .news, .attention]
    let areas : List Area := [dropArea, holdArea, brightArea, bayArea .a, bayArea .b]
    (s.NoFall ∧ s.drop.episode = none ∨ s.AllFall ∧ (s.drop.state = .falling ∨ s.drop.guardTail.isSome = true)) →
    (∀ w : SwapContext, s.swap = some w → w.phase ≠ .relatching → s.latchedFor w →
      s.holds.inForce (.latch w.bay) = false → s.NoFall → s.link.Agrees → s.AsksAlone w →
      (s.bay (otherBay w.bay)).latch ≠ .opening → (s.bay (otherBay w.bay)).latch ≠ .opened →
      let v := relatchedFor w .fall
      let ended := fun (t : State) (after : List Post) =>
        t.clock = max s.clock due ∧ EndedAtOnce s t w v .fall ∧ PollJoined s t w.bay ∧
        t.holds.entries = withoutSwap w s.holds.entries ++ fallEntries t ∧ t.bright = { s.bright with frozen := true } ∧
        PostedMany s t (abortPosts s v .fall ++ after) ∧
        t.notices.news = s.notices.news ||| newsBay ||| s.endBits w |||
          s.postBits (abortPosts s v .fall ++ after).length ∧
        Kept [.clock, .drop, .holds, .storageGuard, .bright, .bay w.bay, .swap, .link, .noticeList, .news, .attention] s t ∧
        BytesKept ([dropArea, holdArea, brightArea, bayArea w.bay] ++ endAreas w) s t
      (s.drop.state = .suspect → ∀ n : Nat, s.drop.n = some n → s.Low a → s.drop.thresholds.run ≤ n + 1 →
        ∃ t, exec (.accelSample a) s = .next t ∧
          t.drop = { d with state := .falling, n := some (n + 1), r := some 0, episode := kept s.drop.episode } ∧
          ended t [⟨.fallStart, none, if t.drop.continued then 1 else 0,
            leBytes 2 (n + 1) ++ leBytes 2 (((n + 1) * (n + 1) * 7661 + 500000) / 1000000) ++
              [byte t.drop.records.length]⟩]) ∧
      ((s.drop.state = .quiet ∨ s.drop.state = .suspect) → ¬ s.Low a → s.Strike a →
        ∃ t, exec (.accelSample a) s = .next t ∧
          t.drop = { d with
            state := .impact, n := none, r := none, episode := kept s.drop.episode
            window := some (windowAt .strike 0 t.uptime a) } ∧ ended t [])) ∧
    ((∀ w : SwapContext, s.swap = some w → w.phase ≠ .relatching → s.holds.inForce (.latch w.bay) = false →
      ¬ s.latchedFor w) →
    (s.drop.state = .suspect → ∀ n : Nat, s.drop.n = some n → s.Low a → s.drop.thresholds.run ≤ n + 1 →
      ∃ t, exec (.accelSample a) s = .next t ∧ held t ∧
        t.drop = { d with state := .falling, n := some (n + 1), r := some 0, episode := kept s.drop.episode } ∧
        Posted s t .fallStart none (if t.drop.continued then 1 else 0)
          (leBytes 2 (n + 1) ++ leBytes 2 (((n + 1) * (n + 1) * 7661 + 500000) / 1000000) ++ [byte t.drop.records.length]) ∧
        NewsWithin (newsBay ||| s.postNews) s t ∧ Kept (.noticeList :: parts) s t ∧
        BytesKept (noticeArea s :: areas) s t) ∧
    ((s.drop.state = .quiet ∨ s.drop.state = .suspect) → ¬ s.Low a → s.Strike a →
      ∃ t, exec (.accelSample a) s = .next t ∧ held t ∧
        t.drop = { d with
          state := .impact, n := none, r := none, episode := kept s.drop.episode
          window := some (windowAt .strike 0 t.uptime a) } ∧
        NewsWithin newsBay s t ∧ Kept parts s t ∧ BytesKept areas s t) ∧
    (s.drop.state = .falling → ∀ n : Nat, s.drop.n = some n → ∀ e : Episode, s.drop.episode = some e →
      s.drop.guardTail = none → s.High a →
      ∃ t, exec (.accelSample a) s = .next t ∧ held t ∧
        t.drop = { d with
          state := .impact, n := none, r := none, window := some (windowAt .drop n t.uptime a) } ∧
        NewsWithin newsBay s t ∧ Kept parts s t ∧ BytesKept areas s t))

/-- An episode ends: at the eighth normal sample of a fall with FALL_CAUGHT, at the settle timer, at the settling cap,
and at the guard tail's end. The FALL entries leave, the freeze ends unless another entry holds it, and the records are
settled (R97, R104, R145, R151, R153, R161). The clock's move to the deadline is the model's choice (assumption log 1). -/
def Obligations.FallsEnd : Prop :=
  ∀ s : State, s.LinesHold → s.Shaped → s.link.Agrees →
    let parts : List Part := [.clock, .drop, .holds, .storageGuard, .bright, .impact, .link, .news, .attention]
    let areas : List Area := [dropArea, holdArea, brightArea, impactArea]
    let ended := fun (t : State) (till : Instant) (d : DropMonitor) =>
      t.clock = max s.clock till ∧ t.drop = { d with episode := none } ∧ FallReleased s t ∧ SettledRecords s t ∧
        NewsWithin newsImpact s t ∧ Kept parts s t ∧ BytesKept areas s t
    (∀ (a : Accel) (due : Instant), s.drop.sampleDue = some due → s.drop.state = .falling →
      ∀ n : Nat, s.drop.n = some n → s.drop.r = some 7 → ¬ s.Low a → ¬ s.High a →
      ∃ t, exec (.accelSample a) s = .next t ∧ t.clock = max s.clock due ∧
        t.drop = { s.drop with
          missing := 0, sampleDue := some (due + 5), state := .quiet, n := none, r := none, episode := none } ∧
        FallReleased s t ∧ SettledRecords s t ∧
        Posted s t .fallCaught none (if s.drop.continued then 1 else 0)
          (leBytes 2 (min 2047 (n + 1)) ++
            leBytes 2 ((min 2047 (n + 1) * min 2047 (n + 1) * 7661 + 500000) / 1000000)) ∧
        NewsWithin (newsImpact ||| s.postNews) s t ∧ Kept (.noticeList :: parts) s t ∧
        BytesKept (noticeArea s :: areas) s t) ∧
    (∀ g : Settling, s.drop.settling = some g → s.drop.state = .settling →
      let d : DropMonitor := { s.drop with state := .quiet, settling := none, n := none, r := none }
      (∃ t, exec .settleTimerExpiry s = .next t ∧ ended t g.settleTimer d) ∧
      ∃ t, exec .settlingCapExpiry s = .next t ∧ ended t g.capTimer d) ∧
    ∀ till : Instant, s.drop.guardTail = some till →
      ∃ t, exec .guardTailExpiry s = .next t ∧ ended t till { s.drop with guardTail := none }

/-- IMPACT_WINDOW_END: with fewer than two open records the window opens a record at the lowest free place, or, in a full
store, in place of the oldest record neither pinned nor open, with the height, the peak, the axis and the severity of its
samples; with the counter exhausted it opens none, and sequence 0 stands for it. With two open records it is folded into
the newest open one. IMPACT is posted, and SETTLING begins with both its timers (R137, R138, R139, R147, R148, R158, R159).
An opening that finds no place opens none (the model's choice, assumption log 29). The clock's move to the deadline
is the model's choice (assumption log 1). A fold's clipped mark is the union of both (assumption log 27), and its
notice carries the record as it then stands (assumption log 28). -/
def Obligations.ImpactsAreRecorded : Prop :=
  ∀ (reading : Option Accel) (s : State), s.LinesHold → s.Shaped → ∀ due : Instant, s.drop.sampleDue = some due →
    ∀ v : ImpactWindow, s.drop.window = some v → s.drop.state = .impact → v.count = 15 →
    (reading = none → s.drop.missing < 3) →
    let w := windowNext v reading
    let settled := fun (t : State) (target : Nat) (e : Option Episode) =>
      t.clock = max s.clock due ∧ t.drop = { s.drop with
        missing := if reading.isSome then 0 else s.drop.missing + 1
        sampleDue := some (due + 5), state := .settling, window := none, episode := e
        settling := some
          { settleTimer := t.clock + ms s.drop.thresholds.settle, capTimer := t.clock + ms 4000, q := 0
            inBounce := true, target := target } }
    let posted := fun (t : State) (r : ImpactRecord) (folded : Nat) =>
      Posted s t .impact none ((if r.clipped then 1 else 0) + folded)
          (leBytes 4 r.sequence ++ [byte (impactKindCode r.kind)] ++ leBytes 2 r.n ++ leBytes 2 r.height ++
            leBytes 2 r.peak ++ [byte (axisCode r.axis), byte (severityCode r.severity)]) ∧
        t.notices.news = s.notices.news ||| newsImpact ||| s.postNews ∧
        Kept [.clock, .drop, .impact, .noticeList, .news, .attention] s t ∧
        BytesKept [dropArea, impactArea, noticeArea s] s t
    (s.impact.openCount < 2 →
      ∃ t, exec (.impactWindowEnd reading) s = .next t ∧
        ∃ r : ImpactRecord, Opened s.impact t.impact r ∧
          PeakOf w.peakM w.clipped r.peak r.severity ∧ Dominates w.peakSample r.axis ∧
          r = { r with
            sequence := s.impact.opensAs, uptime := w.firstHigh, kind := w.kind, n := w.n
            height := (w.n * w.n * 7661 + 500000) / 1000000, peakM := w.peakM, clipped := w.clipped, bounces := 0
            platform := s.power.platform, bayStateA := s.bayA.state, bayStateB := s.bayB.state, joltA := .none
            joltB := .none, stampA := .none, stampB := .none, sensorLost := false, isOpen := true, pinned := false } ∧
          settled t r.sequence (match s.drop.episode with
            | some e => some { e with records := e.records ++ [r.sequence] }
            | none => none) ∧ posted t r 0) ∧
    ∀ o : ImpactRecord, s.impact.openCount = 2 → s.impact.record o.sequence = some o → o.isOpen = true →
      (∀ q ∈ s.impact.records, q.isOpen = true → q ≠ o → q.sequence < o.sequence) →
      ∃ t, exec (.impactWindowEnd reading) s = .next t ∧
        ∃ r : ImpactRecord, t.impact.record o.sequence = some r ∧
          (∀ i, i ≠ o.sequence → t.impact.record i = s.impact.record i) ∧
          r.peakM = max o.peakM w.peakM ∧ r.clipped = (o.clipped || w.clipped) ∧ r.n = max o.n w.n ∧
          r.height = (if o.n < w.n then (w.n * w.n * 7661 + 500000) / 1000000 else o.height) ∧
          (o.peakM < w.peakM → PeakOf r.peakM r.clipped r.peak r.severity ∧ Dominates w.peakSample r.axis) ∧
          (w.peakM ≤ o.peakM →
            r.peak = o.peak ∧ r.axis = o.axis ∧ r.severity = if w.clipped then .severe else o.severity) ∧
          r = { o with
            bounces := min 255 (o.bounces + 1), peakM := r.peakM, peak := r.peak, axis := r.axis, clipped := r.clipped
            severity := r.severity, n := r.n, height := r.height } ∧
          settled t o.sequence s.drop.episode ∧ posted t r 2

/-! ### The pack wire -/

/-- The pack wire: the request's end opens the answer window of 20 ms; an answer frame may begin in it; a frame that
fails its check is retried once; and the attempt that ends a GAUGE job, by a good frame, by no answer or by a second
failure, stores the gauge values or counts a failed poll, and hands the wire to the arbiter. A good frame with the
pack-fault flag bars an ONLINE bay, and is the carrier loss of a release that the bay carries: with no carrier left and
the latch CLOSED, as in SWITCHING, the release ends at once ABORTED CARRIER_LOST. The end of a STAMP job's round gives
its covered records DONE, with the descriptor following, or FAILED, and its follow-on records a round of their own. The
end of a GAUGE job whose bay is BARRED, or in any other state that takes no poll, changes nothing but the wire (R16, R21,
R22, R23, R24, R28, R30, R31, R33, R35, R37, R58, R83, R84, R85, R90, R91, R162). SeatingAndPolls, JoltTimersEnd and
PackQueryTaken have the ends of the other jobs. The clock's move to the deadline is the model's choice (assumption log
1). A latch reversed while its sensor reads closed waits for the sensor's next change (assumption log 42). The states in
the answer of an end are assumption log 14, a carrier's gauge-stale mark log 45, and that PACK_BARRED comes before the
notice of the end log 26. -/
def Obligations.WireAttempts : Prop :=
  (∀ (s : State) (x : Transaction) (data : List Byte), s.LinesHold → s.link.Agrees → s.link.inFlight = some x →
    x.phase = .answering → x.job.work = .gauge → (s.bay x.job.bay).state = .online → data.length = 15 →
    (data.getD 14 0).getLsbD 0 = true →
    let b := x.job.bay
    let rest := s.link.waiting.filter (fun j => !(decide (j.bay = b) && j.work.isGauge))
    let faulted := fun (t : State) (posts : List Post) (news : Byte) (parts : List Part) (areas : List Area) =>
      t.bay b = { s.bay b with
        state := .barred, barred := some .packFault, pathClosed := false, gauge := none, pollDue := none, stale := false
        failedPolls := 0 } ∧
      t.power = (match b with
        | .a => { s.power with chargeA := 0 }
        | .b => { s.power with chargeB := 0 }) ∧
      PostedMany s t (⟨.packBarred, some b, 0, leBytes 8 (s.serial b).toNat ++ [byte (barredCode .packFault)]⟩ :: posts) ∧
      t.notices.news = s.notices.news ||| newsBay ||| news ||| s.postBits (posts.length + 1) ∧
      Kept (parts ++ [.bay b, .power, .link, .noticeList, .news, .attention]) s t ∧
      BytesKept (areas ++ [sourcesArea, bayArea b, noticeArea s]) s t
    ((∀ w : SwapContext, s.swap = some w → w.carrier ≠ .bay b ∨ w.pathReclosed = true) →
      ∃ t, exec (.answerFrame (data ++ [crc8 data])) s = .next t ∧ Arbitrated s t rest ∧ faulted t [] 0 [] []) ∧
    ∀ w : SwapContext, s.swap = some w → w.carrier = .bay b → w.pathReclosed = false → w.bay = otherBay b →
      (s.bay w.bay).state = .releasing →
      ∃ t, exec (.answerFrame (data ++ [crc8 data])) s = .next t ∧
        (¬ LossEnds s t w → CarrierChecked s t w ∧ Arbitrated s t rest ∧
          faulted t [] 0 [.swap, .bay w.bay] [bayArea w.bay]) ∧
        (LossEnds s t w → s.AsksAlone w →
          let v := relatchedFor (reclosedAt w t) .carrierLost
          EndedAtOnce s t w v .carrierLost ∧ t.holds.entries = withoutSwap w s.holds.entries ∧
          ArbitratedWith { s with link := { s.link with waiting := rest } } t w.bay .gauge ∧
          faulted t (abortPosts s v .carrierLost) (s.endBits w) [.swap, .bay w.bay, .holds]
            ([bayArea w.bay, holdArea] ++ endAreas w))) ∧
  (∀ (s : State) (x : Transaction) (covered followOn : List StampItem) (v : StampValues) (c : Instr) (o : LinkOutcome)
      (data : Option (List Byte)), s.LinesHold → s.Shaped → s.link.Agrees → s.link.inFlight = some x →
    x.job.work = .stamp covered followOn → x.stamp = some v → WireEnd x c o data →
    let b := x.job.bay
    let echoed := ∃ bytes, data = some bytes ∧ field bytes 0 2 = v.count
    ∃ t, exec c s = .next t ∧ t.clock = wireClock s x ∧
      Arbitrated s t (s.link.waiting ++
        (if followOn = [] then [] else [{ x.job with work := .stamp followOn [], queuedAt := t.clock / 4 }])) ∧
      (echoed → StampsResolved s t b .done covered ∧
        t.bay b = { s.bay b with descriptor := (s.bay b).descriptor.map (fun d => { d with
          shockCount := v.count, lastSeverity := v.severity, lastSequence := v.sequence }) }) ∧
      (¬ echoed → StampsResolved s t b .failed covered ∧ t.bay b = s.bay b) ∧
      NewsWithin newsImpact s t ∧ Kept [.clock, .bay b, .link, .impact, .news, .attention] s t ∧
      BytesKept [bayArea b, impactArea] s t) ∧
  (∀ (s : State) (x : Transaction) (c : Instr) (o : LinkOutcome) (data : Option (List Byte)), s.LinesHold →
    s.link.Agrees → s.link.inFlight = some x → x.job.work = .gauge → (s.bay x.job.bay).state ≠ .online →
    (s.bay x.job.bay).state ≠ .releasing → WireEnd x c o data →
    ∃ t, exec c s = .next t ∧ t.clock = wireClock s x ∧ Arbitrated s t s.link.waiting ∧ Kept [.clock, .link] s t ∧
      BytesKept [] s t) ∧
  ∀ s : State, s.LinesHold → s.link.Agrees → ∀ x : Transaction, s.link.inFlight = some x →
    let b := x.job.bay
    let retried := fun (t : State) =>
      t.link = { s.link with inFlight := some { x with
        attempt := 2, phase := .sending (s.clock + ms (if x.job.work.isStamp then 3 else 1)) } } ∧
      Kept [.link] s t ∧ BytesKept [] s t
    let failed := fun (t : State) =>
      t.bay b = { s.bay b with
        failedPolls := min 3 ((s.bay b).failedPolls + 1)
        stale := (s.bay b).stale || decide (3 ≤ (s.bay b).failedPolls + 1) } ∧
      Arbitrated s t s.link.waiting ∧ BytesKept [bayArea b] s t
    let polled := x.job.work = .gauge ∧ ((s.bay b).state = .online ∨ (s.bay b).state = .releasing)
    (∀ till : Instant, x.phase = .sending till →
      ∃ t, exec .requestFrameEnd s = .next t ∧ t.clock = max s.clock till ∧
        t.link = { s.link with inFlight := some { x with phase := .window (t.clock + ms 20) } } ∧
        Kept [.clock, .link] s t ∧ BytesKept [] s t) ∧
    (∀ till : Instant, x.phase = .window till →
      (s.clock ≤ till →
        ∃ t, exec .answerFrameBegin s = .next t ∧
          t.link = { s.link with inFlight := some { x with phase := .answering } } ∧ Kept [.link] s t ∧
          BytesKept [] s t) ∧
      (polled →
        ∃ t, exec .answerWindowExpiry s = .next t ∧ t.clock = max s.clock till ∧ failed t ∧
          Kept [.clock, .link, .bay b] s t)) ∧
    (x.phase = .answering →
      (x.attempt = 1 →
        (∃ t, exec .answerFrameGapEnd s = .next t ∧ retried t) ∧
        ∀ bytes : List Byte, x.job.work.answerGood bytes = false →
          ∃ t, exec (.answerFrame bytes) s = .next t ∧ retried t) ∧
      (x.attempt = 2 → polled →
        (∃ t, exec .answerFrameGapEnd s = .next t ∧ failed t ∧ Kept [.link, .bay b] s t) ∧
        ∀ bytes : List Byte, x.job.work.answerGood bytes = false →
          ∃ t, exec (.answerFrame bytes) s = .next t ∧ failed t ∧ Kept [.link, .bay b] s t) ∧
      (polled → ∀ data : List Byte, data.length = 15 → ((s.bay b).state = .online → (data.getD 14 0).getLsbD 0 = false) →
        ∃ t, exec (.answerFrame (data ++ [crc8 data])) s = .next t ∧
          (let remaining := field data 4 4
           let full := field data 8 4
           t.bay b = { s.bay b with
            stale := false, failedPolls := 0
            gauge := some
              { voltage := field data 0 2, current := signedField data 2 2, remaining := remaining, full := full
                temperature := signedField data 12 2, flags := data.getD 14 0
                charge := if full = 0 then 0 else min 100 (remaining * 100 / full) } }) ∧
          Arbitrated s t s.link.waiting ∧ Kept [.link, .bay b] s t ∧ BytesKept [bayArea b] s t))
end

