-- ==== Sys2Proof/Laws/Bytes.lean ====
section
/-! SUPPORT. Numbers as bytes and back. -/

namespace Sys2Proof.Machine

@[simp] theorem leBytes_length (k n : Nat) : (leBytes k n).length = k := by
  induction k generalizing n with
  | zero => rfl
  | succ k ih => simp [leBytes, ih]

/-- Bytes spell the number they were made from, modulo 256 to their count. -/
theorem ofLe_leBytes (k n : Nat) : ofLe (leBytes k n) = n % 256 ^ k := by
  induction k generalizing n with
  | zero => simp [leBytes, ofLe, Nat.mod_one]
  | succ k ih =>
    simp only [leBytes, ofLe, ih, BitVec.toNat_ofNat, pow_succ']
    norm_num [Nat.mod_mul]

theorem ofLe_leBytes_of_lt {k n : Nat} (h : n < 256 ^ k) : ofLe (leBytes k n) = n := by
  rw [ofLe_leBytes, Nat.mod_eq_of_lt h]

theorem ofLe_lt (bs : List Byte) : ofLe bs < 256 ^ bs.length := by
  induction bs with
  | nil => simp [ofLe]
  | cons b bs ih =>
    have := b.isLt
    simp only [ofLe, List.length_cons, pow_succ]
    omega

theorem leBytes_add (j k n : Nat) : leBytes (j + k) n = leBytes j n ++ leBytes k (n / 256 ^ j) := by
  induction j generalizing n with
  | zero => simp [leBytes]
  | succ j ih =>
    rw [Nat.add_right_comm]
    simp only [leBytes, ih, List.cons_append, pow_succ', Nat.div_div_eq_div_mul]

@[simp] theorem leSigned_length (k : Nat) (z : Int) : (leSigned k z).length = k := leBytes_length k _

@[simp] theorem padTo_length (k : Nat) (bs : List Byte) : (padTo k bs).length = k := by
  simp [padTo]
  omega

theorem padTo_of_length {k : Nat} {bs : List Byte} (h : bs.length = k) : padTo k bs = bs := by
  subst h
  simp [padTo]

/-- The number that one byte spells. -/
theorem ofLe_singleton (b : Byte) : ofLe [b] = b.toNat := by simp [ofLe]

@[simp] theorem byte_toNat (n : Nat) : (byte n).toNat = n % 256 := by simp [byte]

end Sys2Proof.Machine
end

