-- ==== Sys2Proof/Laws/Memory.lean ====
section
/-! SUPPORT. Care memory: what a write leaves to be read, and that every write keeps the one form. -/

namespace Sys2Proof.Machine

theorem Memory.read_append (m m' : List Host.Cell) (x : Nat) (h : ∀ c ∈ m, c.1 ≠ x) :
    Memory.read (m ++ m') x = Memory.read m' x := by
  induction m with
  | nil => rfl
  | cons c cs ih =>
    simp only [List.cons_append, Memory.read]
    rw [if_neg (h c (by simp))]
    exact ih (fun d hd => h d (by simp [hd]))

theorem Memory.read_of_not_mem (m : List Host.Cell) (x : Nat) (h : ∀ c ∈ m, c.1 ≠ x) : Memory.read m x = 0 := by
  simpa [Memory.read] using Memory.read_append m [] x h

theorem Memory.read_append_left (m m' : List Host.Cell) (x : Nat) (h : ∀ c ∈ m', c.1 ≠ x) :
    Memory.read (m ++ m') x = Memory.read m x := by
  induction m with
  | nil => exact Memory.read_of_not_mem m' x h
  | cons c cs ih => simp only [List.cons_append, Memory.read, ih]

theorem Memory.read_filter (m : List Host.Cell) (p : Host.Cell → Bool) (x : Nat) (h : ∀ b, p (x, b) = true) :
    Memory.read (m.filter p) x = Memory.read m x := by
  induction m with
  | nil => rfl
  | cons c cs ih =>
    by_cases hc : p c = true
    · simp only [List.filter_cons, hc, if_true, Memory.read, ih]
    · have hx : c.1 ≠ x := by
        rintro rfl
        exact hc (h c.2)
      simp only [List.filter_cons, hc, Memory.read, if_neg hx]
      simpa using ih

/-- The cells of stored bytes lie where the bytes are stored. -/
theorem Memory.cells_addr (a : Nat) (bs : List Byte) : ∀ c ∈ Memory.cells a bs, a ≤ c.1 ∧ c.1 < a + bs.length := by
  induction bs generalizing a with
  | nil => simp [Memory.cells]
  | cons b bs ih =>
    intro c hc
    simp only [Memory.cells] at hc
    have step : c ∈ Memory.cells (a + 1) bs → a ≤ c.1 ∧ c.1 < a + (b :: bs).length := fun h => by
      have := ih (a + 1) c h
      simp only [List.length_cons]
      omega
    split at hc
    · rcases List.mem_cons.1 hc with rfl | h
      · simp
      · exact step h
    · exact step hc

/-- What the cells of stored bytes read. -/
theorem Memory.read_cells (a : Nat) (bs : List Byte) (x : Nat) (h : a ≤ x) (h' : x < a + bs.length) :
    Memory.read (Memory.cells a bs) x = if x < 0x2000 then bs.getD (x - a) 0 else 0 := by
  induction bs generalizing a with
  | nil => simp at h'; omega
  | cons b bs ih =>
    simp only [List.length_cons] at h'
    have tail : a + 1 ≤ x → Memory.read (Memory.cells (a + 1) bs) x =
        if x < 0x2000 then (b :: bs).getD (x - a) 0 else 0 := fun hx => by
      rw [ih (a + 1) hx (by omega)]
      have : x - a = (x - (a + 1)) + 1 := by omega
      simp [this]
    have cons (hok : Memory.cellOk (a, b) = true) :
        Memory.cells a (b :: bs) = (a, b) :: Memory.cells (a + 1) bs := by simp only [Memory.cells, hok, if_true]
    have skip (hok : ¬ Memory.cellOk (a, b) = true) :
        Memory.cells a (b :: bs) = Memory.cells (a + 1) bs := by simp only [Memory.cells, if_neg hok]
    by_cases hx : a = x
    · subst hx
      have none : Memory.read (Memory.cells (a + 1) bs) a = 0 :=
        Memory.read_of_not_mem _ _ (fun c hc => by have := Memory.cells_addr (a + 1) bs c hc; omega)
      by_cases hok : Memory.cellOk (a, b) = true
      · rw [cons hok]
        simp only [Memory.cellOk, Bool.and_eq_true, decide_eq_true_eq] at hok
        simp [Memory.read, hok.1]
      · rw [skip hok, none]
        simp only [Memory.cellOk, Bool.and_eq_true, decide_eq_true_eq, bne_iff_ne] at hok
        by_cases h1 : a < 0x2000
        · have : b = 0 := by
            by_contra hb
            exact hok ⟨h1, hb⟩
          simp [this]
        · rw [if_neg h1]
    · by_cases hok : Memory.cellOk (a, b) = true
      · rw [cons hok]
        simp only [Memory.read, if_neg hx]
        exact tail (by omega)
      · rw [skip hok]
        exact tail (by omega)

/-- What memory reads after a write: the stored bytes within care memory, nothing beyond it, and every other byte as
before. -/
theorem Memory.read_write (m : List Host.Cell) (a : Nat) (bs : List Byte) (x : Nat) :
    Memory.read (Memory.write m a bs) x =
      if a ≤ x ∧ x < a + bs.length then (if x < 0x2000 then bs.getD (x - a) 0 else 0) else Memory.read m x := by
  unfold Memory.write
  by_cases h : a ≤ x ∧ x < a + bs.length
  · rw [if_pos h, List.append_assoc, Memory.read_append, Memory.read_append_left, Memory.read_cells a bs x h.1 h.2]
    · intro c hc
      have := (List.mem_filter.1 hc).2
      simp at this
      omega
    · intro c hc
      have := (List.mem_filter.1 hc).2
      simp at this
      omega
  · rw [if_neg h]
    rcases Nat.lt_or_ge x a with hx | hx
    · rw [Memory.read_append_left, Memory.read_append_left, Memory.read_filter]
      · simpa using hx
      · intro c hc
        have := Memory.cells_addr a bs c hc
        omega
      · intro c hc
        have := (List.mem_filter.1 hc).2
        simp at this
        omega
    · rw [Memory.read_append, Memory.read_filter]
      · intro b
        simp
        omega
      · intro c hc
        rcases List.mem_append.1 hc with hc | hc
        · have := (List.mem_filter.1 hc).2
          simp at this
          omega
        · have := Memory.cells_addr a bs c hc
          omega

/-- A byte outside the stored ones reads as before. -/
theorem Memory.read_write_apart (m : List Host.Cell) (a : Nat) (bs : List Byte) (x : Nat)
    (h : x < a ∨ a + bs.length ≤ x) : Memory.read (Memory.write m a bs) x = Memory.read m x := by
  rw [Memory.read_write, if_neg (by omega)]

@[simp] theorem Memory.readBytes_length (m : List Host.Cell) (a k : Nat) : (Memory.readBytes m a k).length = k := by
  induction k generalizing a with
  | zero => rfl
  | succ k ih => simp [Memory.readBytes, ih]

theorem Memory.readBytes_congr {m m' : List Host.Cell} {a k : Nat}
    (h : ∀ x, a ≤ x → x < a + k → Memory.read m x = Memory.read m' x) :
    Memory.readBytes m a k = Memory.readBytes m' a k := by
  induction k generalizing a with
  | zero => rfl
  | succ k ih =>
    simp only [Memory.readBytes]
    rw [h a (by omega) (by omega), ih (fun x hx hx' => h x (by omega) (by omega))]

theorem Memory.readBytes_getElem (m : List Host.Cell) (a k i : Nat) (h : i < k) :
    (Memory.readBytes m a k)[i]'(by simpa using h) = Memory.read m (a + i) := by
  induction k generalizing a i with
  | zero => omega
  | succ k ih =>
    cases i with
    | zero => rfl
    | succ i =>
      simp only [Memory.readBytes, List.getElem_cons_succ]
      rw [ih (a + 1) i (by omega)]
      congr 1
      omega

/-- Bytes stored within care memory read back. -/
theorem Memory.readBytes_write (m : List Host.Cell) (a : Nat) (bs : List Byte) (h : a + bs.length ≤ 0x2000) :
    Memory.readBytes (Memory.write m a bs) a bs.length = bs := by
  apply List.ext_getElem (by simp)
  intro i h1 h2
  rw [Memory.readBytes_getElem _ _ _ _ h2, Memory.read_write, if_pos (by omega), if_pos (by omega)]
  simp [h2]

/-- Part of what is stored within care memory reads back. -/
theorem Memory.readBytes_write_part (m : List Host.Cell) (a : Nat) (bs : List Byte) (x k : Nat)
    (h : a + bs.length ≤ 0x2000) (h1 : a ≤ x) (h2 : x + k ≤ a + bs.length) :
    Memory.readBytes (Memory.write m a bs) x k = (bs.drop (x - a)).take k := by
  apply List.ext_getElem (by simp; omega)
  intro i h3 h4
  have hi : i < k := by simpa using h3
  rw [Memory.readBytes_getElem _ _ _ _ hi, Memory.read_write, if_pos (by omega), if_pos (by omega)]
  have : x + i - a < bs.length := by omega
  simp only [List.getElem_take, List.getElem_drop]
  rw [List.getD_eq_getElem?_getD, List.getElem?_eq_getElem this, Option.getD_some]
  congr 1
  omega

theorem Memory.readBytes_write_apart (m : List Host.Cell) (a : Nat) (bs : List Byte) (x k : Nat)
    (h : x + k ≤ a ∨ a + bs.length ≤ x) :
    Memory.readBytes (Memory.write m a bs) x k = Memory.readBytes m x k :=
  Memory.readBytes_congr (fun y hy hy' => Memory.read_write_apart m a bs y (by omega))

theorem Memory.readNat_write_apart (m : List Host.Cell) (a : Nat) (bs : List Byte) (x k : Nat)
    (h : x + k ≤ a ∨ a + bs.length ≤ x) :
    Memory.readNat (Memory.write m a bs) x k = Memory.readNat m x k := by
  simp only [Memory.readNat, Memory.readBytes_write_apart m a bs x k h]

/-- A number stored in k bytes within care memory reads back. -/
theorem Memory.readNat_write (m : List Host.Cell) (a k n : Nat) (h : a + k ≤ 0x2000) (hn : n < 256 ^ k) :
    Memory.readNat (Memory.write m a (leBytes k n)) a k = n := by
  have := Memory.readBytes_write m a (leBytes k n) (by simpa using h)
  rw [leBytes_length] at this
  rw [Memory.readNat, this, ofLe_leBytes_of_lt hn]

/-! ### The one form -/

/-- The one form, said of pairs of cells. -/
theorem Memory.wf_iff (m : List Host.Cell) :
    Memory.wf m = true ↔ (∀ c ∈ m, Memory.cellOk c = true) ∧ m.Pairwise (fun c d => c.1 < d.1) := by
  induction m with
  | nil => simp [Memory.wf]
  | cons c cs ih =>
    simp only [Memory.wf, Bool.and_eq_true, ih, List.all_eq_true, decide_eq_true_eq, List.mem_cons, forall_eq_or_imp,
      List.pairwise_cons]
    tauto

theorem Memory.cells_wf (a : Nat) (bs : List Byte) : Memory.wf (Memory.cells a bs) = true := by
  induction bs generalizing a with
  | nil => rfl
  | cons b bs ih =>
    simp only [Memory.cells]
    split
    · rename_i hok
      simp only [Memory.wf, hok, ih, Bool.and_true, Bool.true_and, List.all_eq_true, decide_eq_true_eq]
      intro d hd
      have := Memory.cells_addr (a + 1) bs d hd
      omega
    · exact ih (a + 1)

/-- Every write keeps the one form. -/
theorem Memory.write_wf (m : List Host.Cell) (a : Nat) (bs : List Byte) (h : Memory.wf m = true) :
    Memory.wf (Memory.write m a bs) = true := by
  rw [Memory.wf_iff] at h ⊢
  have hc := (Memory.wf_iff _).1 (Memory.cells_wf a bs)
  unfold Memory.write
  refine ⟨?_, ?_⟩
  · intro c hmem
    simp only [List.mem_append, List.mem_filter] at hmem
    rcases hmem with (⟨hm, _⟩ | hm) | ⟨hm, _⟩
    · exact h.1 c hm
    · exact hc.1 c hm
    · exact h.1 c hm
  · rw [List.pairwise_append, List.pairwise_append]
    refine ⟨⟨h.2.filter _, hc.2, ?_⟩, h.2.filter _, ?_⟩
    · intro c hcm d hdm
      have h1 := (List.mem_filter.1 hcm).2
      have h2 := Memory.cells_addr a bs d hdm
      simp at h1
      omega
    · intro c hcm d hdm
      have h2 := (List.mem_filter.1 hdm).2
      simp at h2
      rcases List.mem_append.1 hcm with hcm | hcm
      · have h1 := (List.mem_filter.1 hcm).2
        simp at h1
        omega
      · have h1 := Memory.cells_addr a bs c hcm
        omega

/-- Memory right after reset has the one form. -/
theorem Memory.reset_wf : Memory.wf State.reset.port.memory = true := rfl

end Sys2Proof.Machine
end

