-- ==== Sys2Proof/Laws/State.lean ====
section
/-! SUPPORT. What each update of the state leaves in each field: one lemma for a field and an update. -/

namespace Sys2Proof.Machine

variable (s : State)

/-! ### reach -/

@[simp] theorem State.reach_pins (t : Instant) : (s.reach t).pins = s.pins := rfl
@[simp] theorem State.reach_port (t : Instant) : (s.reach t).port = s.port := rfl
@[simp] theorem State.reach_notices (t : Instant) : (s.reach t).notices = s.notices := rfl
@[simp] theorem State.reach_bayA (t : Instant) : (s.reach t).bayA = s.bayA := rfl
@[simp] theorem State.reach_bayB (t : Instant) : (s.reach t).bayB = s.bayB := rfl
@[simp] theorem State.reach_swap (t : Instant) : (s.reach t).swap = s.swap := rfl
@[simp] theorem State.reach_swapWindow (t : Instant) : (s.reach t).swapWindow = s.swapWindow := rfl
@[simp] theorem State.reach_link (t : Instant) : (s.reach t).link = s.link := rfl
@[simp] theorem State.reach_power (t : Instant) : (s.reach t).power = s.power := rfl
@[simp] theorem State.reach_holds (t : Instant) : (s.reach t).holds = s.holds := rfl
@[simp] theorem State.reach_bright (t : Instant) : (s.reach t).bright = s.bright := rfl
@[simp] theorem State.reach_drop (t : Instant) : (s.reach t).drop = s.drop := rfl
@[simp] theorem State.reach_impact (t : Instant) : (s.reach t).impact = s.impact := rfl
@[simp] theorem State.reach_settings (t : Instant) : (s.reach t).settings = s.settings := rfl
@[simp] theorem State.reach_free (t : Instant) : (s.reach t).free = s.free := rfl
@[simp] theorem State.reach_pending (t : Instant) : (s.reach t).pending = s.pending := rfl
@[simp] theorem State.reach_clock (t : Instant) :
    (s.reach t).clock = max s.clock t := rfl
@[simp] theorem State.reach_bay (t : Instant) (d : Bay) : (s.reach t).bay d = s.bay d := rfl
@[simp] theorem State.reach_swapOf (t : Instant) (d : Bay) : (s.reach t).swapOf d = s.swapOf d := rfl

/-! ### tick -/

@[simp] theorem State.tick_pins : s.tick.pins = s.pins := rfl
@[simp] theorem State.tick_port : s.tick.port = s.port := rfl
@[simp] theorem State.tick_notices : s.tick.notices = s.notices := rfl
@[simp] theorem State.tick_bayA : s.tick.bayA = s.bayA := rfl
@[simp] theorem State.tick_bayB : s.tick.bayB = s.bayB := rfl
@[simp] theorem State.tick_swap : s.tick.swap = s.swap := rfl
@[simp] theorem State.tick_swapWindow : s.tick.swapWindow = s.swapWindow := rfl
@[simp] theorem State.tick_link : s.tick.link = s.link := rfl
@[simp] theorem State.tick_power : s.tick.power = s.power := rfl
@[simp] theorem State.tick_holds : s.tick.holds = s.holds := rfl
@[simp] theorem State.tick_bright : s.tick.bright = s.bright := rfl
@[simp] theorem State.tick_drop : s.tick.drop = s.drop := rfl
@[simp] theorem State.tick_impact : s.tick.impact = s.impact := rfl
@[simp] theorem State.tick_settings : s.tick.settings = s.settings := rfl
@[simp] theorem State.tick_free : s.tick.free = s.free := rfl
@[simp] theorem State.tick_pending : s.tick.pending = s.pending := rfl
@[simp] theorem State.tick_clock :
    s.tick.clock = s.clock + 1 := rfl
@[simp] theorem State.tick_bay (d : Bay) : s.tick.bay d = s.bay d := rfl
@[simp] theorem State.tick_swapOf (d : Bay) : s.tick.swapOf d = s.swapOf d := rfl

/-! ### setBay -/

@[simp] theorem State.setBay_clock (b : Bay) (c : BayContext) : (s.setBay b c).clock = s.clock := rfl
@[simp] theorem State.setBay_pins (b : Bay) (c : BayContext) : (s.setBay b c).pins = s.pins := rfl
@[simp] theorem State.setBay_port (b : Bay) (c : BayContext) : (s.setBay b c).port = s.port := rfl
@[simp] theorem State.setBay_notices (b : Bay) (c : BayContext) : (s.setBay b c).notices = s.notices := rfl
@[simp] theorem State.setBay_swap (b : Bay) (c : BayContext) : (s.setBay b c).swap = s.swap := rfl
@[simp] theorem State.setBay_swapWindow (b : Bay) (c : BayContext) : (s.setBay b c).swapWindow = s.swapWindow := rfl
@[simp] theorem State.setBay_link (b : Bay) (c : BayContext) : (s.setBay b c).link = s.link := rfl
@[simp] theorem State.setBay_power (b : Bay) (c : BayContext) : (s.setBay b c).power = s.power := rfl
@[simp] theorem State.setBay_holds (b : Bay) (c : BayContext) : (s.setBay b c).holds = s.holds := rfl
@[simp] theorem State.setBay_bright (b : Bay) (c : BayContext) : (s.setBay b c).bright = s.bright := rfl
@[simp] theorem State.setBay_drop (b : Bay) (c : BayContext) : (s.setBay b c).drop = s.drop := rfl
@[simp] theorem State.setBay_impact (b : Bay) (c : BayContext) : (s.setBay b c).impact = s.impact := rfl
@[simp] theorem State.setBay_settings (b : Bay) (c : BayContext) : (s.setBay b c).settings = s.settings := rfl
@[simp] theorem State.setBay_free (b : Bay) (c : BayContext) : (s.setBay b c).free = s.free := rfl
@[simp] theorem State.setBay_pending (b : Bay) (c : BayContext) : (s.setBay b c).pending = s.pending := rfl
@[simp] theorem State.setBay_swapOf (b : Bay) (c : BayContext) (d : Bay) : (s.setBay b c).swapOf d = s.swapOf d := rfl
@[simp] theorem State.setBay_uptime (b : Bay) (c : BayContext) : (s.setBay b c).uptime = s.uptime := rfl

/-! ### setBayPins -/

@[simp] theorem State.setBayPins_clock (b : Bay) (p : BayPins) : (s.setBayPins b p).clock = s.clock := rfl
@[simp] theorem State.setBayPins_port (b : Bay) (p : BayPins) : (s.setBayPins b p).port = s.port := rfl
@[simp] theorem State.setBayPins_notices (b : Bay) (p : BayPins) : (s.setBayPins b p).notices = s.notices := rfl
@[simp] theorem State.setBayPins_bayA (b : Bay) (p : BayPins) : (s.setBayPins b p).bayA = s.bayA := rfl
@[simp] theorem State.setBayPins_bayB (b : Bay) (p : BayPins) : (s.setBayPins b p).bayB = s.bayB := rfl
@[simp] theorem State.setBayPins_swap (b : Bay) (p : BayPins) : (s.setBayPins b p).swap = s.swap := rfl
@[simp] theorem State.setBayPins_swapWindow (b : Bay) (p : BayPins) : (s.setBayPins b p).swapWindow = s.swapWindow := rfl
@[simp] theorem State.setBayPins_link (b : Bay) (p : BayPins) : (s.setBayPins b p).link = s.link := rfl
@[simp] theorem State.setBayPins_power (b : Bay) (p : BayPins) : (s.setBayPins b p).power = s.power := rfl
@[simp] theorem State.setBayPins_holds (b : Bay) (p : BayPins) : (s.setBayPins b p).holds = s.holds := rfl
@[simp] theorem State.setBayPins_bright (b : Bay) (p : BayPins) : (s.setBayPins b p).bright = s.bright := rfl
@[simp] theorem State.setBayPins_drop (b : Bay) (p : BayPins) : (s.setBayPins b p).drop = s.drop := rfl
@[simp] theorem State.setBayPins_impact (b : Bay) (p : BayPins) : (s.setBayPins b p).impact = s.impact := rfl
@[simp] theorem State.setBayPins_settings (b : Bay) (p : BayPins) : (s.setBayPins b p).settings = s.settings := rfl
@[simp] theorem State.setBayPins_free (b : Bay) (p : BayPins) : (s.setBayPins b p).free = s.free := rfl
@[simp] theorem State.setBayPins_pending (b : Bay) (p : BayPins) : (s.setBayPins b p).pending = s.pending := rfl
@[simp] theorem State.setBayPins_bay (b : Bay) (p : BayPins) (d : Bay) : (s.setBayPins b p).bay d = s.bay d := rfl
@[simp] theorem State.setBayPins_swapOf (b : Bay) (p : BayPins) (d : Bay) : (s.setBayPins b p).swapOf d = s.swapOf d := rfl
@[simp] theorem State.setBayPins_uptime (b : Bay) (p : BayPins) : (s.setBayPins b p).uptime = s.uptime := rfl

/-! ### store -/

@[simp] theorem State.store_clock (a : Nat) (bs : List Byte) : (s.store a bs).clock = s.clock := rfl
@[simp] theorem State.store_pins (a : Nat) (bs : List Byte) : (s.store a bs).pins = s.pins := rfl
@[simp] theorem State.store_port_startUp (a : Nat) (bs : List Byte) : (s.store a bs).port.startUp = s.port.startUp := rfl
@[simp] theorem State.store_port_careReset (a : Nat) (bs : List Byte) : (s.store a bs).port.careReset = s.port.careReset := rfl
@[simp] theorem State.store_port_acceptance (a : Nat) (bs : List Byte) : (s.store a bs).port.acceptance = s.port.acceptance := rfl
@[simp] theorem State.store_port_intake (a : Nat) (bs : List Byte) : (s.store a bs).port.intake = s.port.intake := rfl
@[simp] theorem State.store_port_answer (a : Nat) (bs : List Byte) : (s.store a bs).port.answer = s.port.answer := rfl
@[simp] theorem State.store_notices (a : Nat) (bs : List Byte) : (s.store a bs).notices = s.notices := rfl
@[simp] theorem State.store_bayA (a : Nat) (bs : List Byte) : (s.store a bs).bayA = s.bayA := rfl
@[simp] theorem State.store_bayB (a : Nat) (bs : List Byte) : (s.store a bs).bayB = s.bayB := rfl
@[simp] theorem State.store_swap (a : Nat) (bs : List Byte) : (s.store a bs).swap = s.swap := rfl
@[simp] theorem State.store_swapWindow (a : Nat) (bs : List Byte) : (s.store a bs).swapWindow = s.swapWindow := rfl
@[simp] theorem State.store_link (a : Nat) (bs : List Byte) : (s.store a bs).link = s.link := rfl
@[simp] theorem State.store_power (a : Nat) (bs : List Byte) : (s.store a bs).power = s.power := rfl
@[simp] theorem State.store_holds (a : Nat) (bs : List Byte) : (s.store a bs).holds = s.holds := rfl
@[simp] theorem State.store_bright (a : Nat) (bs : List Byte) : (s.store a bs).bright = s.bright := rfl
@[simp] theorem State.store_drop (a : Nat) (bs : List Byte) : (s.store a bs).drop = s.drop := rfl
@[simp] theorem State.store_impact (a : Nat) (bs : List Byte) : (s.store a bs).impact = s.impact := rfl
@[simp] theorem State.store_settings (a : Nat) (bs : List Byte) : (s.store a bs).settings = s.settings := rfl
@[simp] theorem State.store_free (a : Nat) (bs : List Byte) : (s.store a bs).free = s.free := rfl
@[simp] theorem State.store_pending (a : Nat) (bs : List Byte) : (s.store a bs).pending = s.pending := rfl
@[simp] theorem State.store_port_memory (a : Nat) (bs : List Byte) :
    (s.store a bs).port.memory = Memory.write s.port.memory a bs := rfl
@[simp] theorem State.store_bay (a : Nat) (bs : List Byte) (d : Bay) : (s.store a bs).bay d = s.bay d := rfl
@[simp] theorem State.store_swapOf (a : Nat) (bs : List Byte) (d : Bay) : (s.store a bs).swapOf d = s.swapOf d := rfl
@[simp] theorem State.store_uptime (a : Nat) (bs : List Byte) : (s.store a bs).uptime = s.uptime := rfl

/-! ### blockStore -/

@[simp] theorem State.blockStore_clock (a : Nat) (bs : List Byte) : (s.blockStore a bs).clock = s.clock := rfl
@[simp] theorem State.blockStore_pins (a : Nat) (bs : List Byte) : (s.blockStore a bs).pins = s.pins := rfl
@[simp] theorem State.blockStore_port_startUp (a : Nat) (bs : List Byte) : (s.blockStore a bs).port.startUp = s.port.startUp := rfl
@[simp] theorem State.blockStore_port_careReset (a : Nat) (bs : List Byte) : (s.blockStore a bs).port.careReset = s.port.careReset := rfl
@[simp] theorem State.blockStore_port_acceptance (a : Nat) (bs : List Byte) : (s.blockStore a bs).port.acceptance = s.port.acceptance := rfl
@[simp] theorem State.blockStore_port_intake (a : Nat) (bs : List Byte) : (s.blockStore a bs).port.intake = s.port.intake := rfl
@[simp] theorem State.blockStore_port_answer (a : Nat) (bs : List Byte) : (s.blockStore a bs).port.answer = s.port.answer := rfl
@[simp] theorem State.blockStore_notices (a : Nat) (bs : List Byte) : (s.blockStore a bs).notices = s.notices := rfl
@[simp] theorem State.blockStore_bayA (a : Nat) (bs : List Byte) : (s.blockStore a bs).bayA = s.bayA := rfl
@[simp] theorem State.blockStore_bayB (a : Nat) (bs : List Byte) : (s.blockStore a bs).bayB = s.bayB := rfl
@[simp] theorem State.blockStore_swap (a : Nat) (bs : List Byte) : (s.blockStore a bs).swap = s.swap := rfl
@[simp] theorem State.blockStore_swapWindow (a : Nat) (bs : List Byte) : (s.blockStore a bs).swapWindow = s.swapWindow := rfl
@[simp] theorem State.blockStore_link (a : Nat) (bs : List Byte) : (s.blockStore a bs).link = s.link := rfl
@[simp] theorem State.blockStore_power (a : Nat) (bs : List Byte) : (s.blockStore a bs).power = s.power := rfl
@[simp] theorem State.blockStore_holds (a : Nat) (bs : List Byte) : (s.blockStore a bs).holds = s.holds := rfl
@[simp] theorem State.blockStore_bright (a : Nat) (bs : List Byte) : (s.blockStore a bs).bright = s.bright := rfl
@[simp] theorem State.blockStore_drop (a : Nat) (bs : List Byte) : (s.blockStore a bs).drop = s.drop := rfl
@[simp] theorem State.blockStore_impact (a : Nat) (bs : List Byte) : (s.blockStore a bs).impact = s.impact := rfl
@[simp] theorem State.blockStore_settings (a : Nat) (bs : List Byte) : (s.blockStore a bs).settings = s.settings := rfl
@[simp] theorem State.blockStore_free (a : Nat) (bs : List Byte) : (s.blockStore a bs).free = s.free := rfl
@[simp] theorem State.blockStore_pending (a : Nat) (bs : List Byte) : (s.blockStore a bs).pending = s.pending := rfl
@[simp] theorem State.blockStore_port_memory (a : Nat) (bs : List Byte) :
    (s.blockStore a bs).port.memory = if s.port.careReset then s.port.memory else Memory.write s.port.memory a bs := rfl
@[simp] theorem State.blockStore_bay (a : Nat) (bs : List Byte) (d : Bay) : (s.blockStore a bs).bay d = s.bay d := rfl
@[simp] theorem State.blockStore_swapOf (a : Nat) (bs : List Byte) (d : Bay) : (s.blockStore a bs).swapOf d = s.swapOf d := rfl
@[simp] theorem State.blockStore_uptime (a : Nat) (bs : List Byte) : (s.blockStore a bs).uptime = s.uptime := rfl

/-! ### setOwner -/

@[simp] theorem State.setOwner_clock (k o : Nat) : (s.setOwner k o).clock = s.clock := rfl
@[simp] theorem State.setOwner_pins (k o : Nat) : (s.setOwner k o).pins = s.pins := rfl
@[simp] theorem State.setOwner_port_startUp (k o : Nat) : (s.setOwner k o).port.startUp = s.port.startUp := rfl
@[simp] theorem State.setOwner_port_careReset (k o : Nat) : (s.setOwner k o).port.careReset = s.port.careReset := rfl
@[simp] theorem State.setOwner_port_acceptance (k o : Nat) : (s.setOwner k o).port.acceptance = s.port.acceptance := rfl
@[simp] theorem State.setOwner_port_intake (k o : Nat) : (s.setOwner k o).port.intake = s.port.intake := rfl
@[simp] theorem State.setOwner_port_answer (k o : Nat) : (s.setOwner k o).port.answer = s.port.answer := rfl
@[simp] theorem State.setOwner_notices (k o : Nat) : (s.setOwner k o).notices = s.notices := rfl
@[simp] theorem State.setOwner_bayA (k o : Nat) : (s.setOwner k o).bayA = s.bayA := rfl
@[simp] theorem State.setOwner_bayB (k o : Nat) : (s.setOwner k o).bayB = s.bayB := rfl
@[simp] theorem State.setOwner_swap (k o : Nat) : (s.setOwner k o).swap = s.swap := rfl
@[simp] theorem State.setOwner_swapWindow (k o : Nat) : (s.setOwner k o).swapWindow = s.swapWindow := rfl
@[simp] theorem State.setOwner_link (k o : Nat) : (s.setOwner k o).link = s.link := rfl
@[simp] theorem State.setOwner_power (k o : Nat) : (s.setOwner k o).power = s.power := rfl
@[simp] theorem State.setOwner_holds (k o : Nat) : (s.setOwner k o).holds = s.holds := rfl
@[simp] theorem State.setOwner_bright (k o : Nat) : (s.setOwner k o).bright = s.bright := rfl
@[simp] theorem State.setOwner_drop (k o : Nat) : (s.setOwner k o).drop = s.drop := rfl
@[simp] theorem State.setOwner_impact (k o : Nat) : (s.setOwner k o).impact = s.impact := rfl
@[simp] theorem State.setOwner_settings (k o : Nat) : (s.setOwner k o).settings = s.settings := rfl
@[simp] theorem State.setOwner_free (k o : Nat) : (s.setOwner k o).free = s.free := rfl
@[simp] theorem State.setOwner_pending (k o : Nat) : (s.setOwner k o).pending = s.pending := rfl
@[simp] theorem State.setOwner_port_memory (k o : Nat) :
    (s.setOwner k o).port.memory = Memory.write s.port.memory (slotBase k) (leBytes 4 o) := rfl
@[simp] theorem State.setOwner_bay (k o : Nat) (d : Bay) : (s.setOwner k o).bay d = s.bay d := rfl
@[simp] theorem State.setOwner_swapOf (k o : Nat) (d : Bay) : (s.setOwner k o).swapOf d = s.swapOf d := rfl
@[simp] theorem State.setOwner_uptime (k o : Nat) : (s.setOwner k o).uptime = s.uptime := rfl

/-! ### accept -/

@[simp] theorem State.accept_clock (k : Nat) : (s.accept k).clock = s.clock := rfl
@[simp] theorem State.accept_pins (k : Nat) : (s.accept k).pins = s.pins := rfl
@[simp] theorem State.accept_port_startUp (k : Nat) : (s.accept k).port.startUp = s.port.startUp := rfl
@[simp] theorem State.accept_port_careReset (k : Nat) : (s.accept k).port.careReset = s.port.careReset := rfl
@[simp] theorem State.accept_port_intake (k : Nat) : (s.accept k).port.intake = s.port.intake := rfl
@[simp] theorem State.accept_port_answer (k : Nat) : (s.accept k).port.answer = s.port.answer := rfl
@[simp] theorem State.accept_notices (k : Nat) : (s.accept k).notices = s.notices := rfl
@[simp] theorem State.accept_bayA (k : Nat) : (s.accept k).bayA = s.bayA := rfl
@[simp] theorem State.accept_bayB (k : Nat) : (s.accept k).bayB = s.bayB := rfl
@[simp] theorem State.accept_swap (k : Nat) : (s.accept k).swap = s.swap := rfl
@[simp] theorem State.accept_swapWindow (k : Nat) : (s.accept k).swapWindow = s.swapWindow := rfl
@[simp] theorem State.accept_link (k : Nat) : (s.accept k).link = s.link := rfl
@[simp] theorem State.accept_power (k : Nat) : (s.accept k).power = s.power := rfl
@[simp] theorem State.accept_holds (k : Nat) : (s.accept k).holds = s.holds := rfl
@[simp] theorem State.accept_bright (k : Nat) : (s.accept k).bright = s.bright := rfl
@[simp] theorem State.accept_drop (k : Nat) : (s.accept k).drop = s.drop := rfl
@[simp] theorem State.accept_impact (k : Nat) : (s.accept k).impact = s.impact := rfl
@[simp] theorem State.accept_settings (k : Nat) : (s.accept k).settings = s.settings := rfl
@[simp] theorem State.accept_free (k : Nat) : (s.accept k).free = s.free := rfl
@[simp] theorem State.accept_pending (k : Nat) : (s.accept k).pending = s.pending := rfl
@[simp] theorem State.accept_port_memory (k : Nat) :
    (s.accept k).port.memory = Memory.write s.port.memory (slotBase k) (leBytes 4 ownerAccepted) := rfl
@[simp] theorem State.accept_port_acceptance (k : Nat) :
    (s.accept k).port.acceptance = s.port.acceptance.set k (s.acceptanceOf k + 1) := rfl
@[simp] theorem State.accept_bay (k : Nat) (d : Bay) : (s.accept k).bay d = s.bay d := rfl
@[simp] theorem State.accept_swapOf (k : Nat) (d : Bay) : (s.accept k).swapOf d = s.swapOf d := rfl
@[simp] theorem State.accept_uptime (k : Nat) : (s.accept k).uptime = s.uptime := rfl

/-! ### popIntake -/

@[simp] theorem State.popIntake_clock : s.popIntake.clock = s.clock := rfl
@[simp] theorem State.popIntake_pins : s.popIntake.pins = s.pins := rfl
@[simp] theorem State.popIntake_port_memory : s.popIntake.port.memory = s.port.memory := rfl
@[simp] theorem State.popIntake_port_startUp : s.popIntake.port.startUp = s.port.startUp := rfl
@[simp] theorem State.popIntake_port_careReset : s.popIntake.port.careReset = s.port.careReset := rfl
@[simp] theorem State.popIntake_port_acceptance : s.popIntake.port.acceptance = s.port.acceptance := rfl
@[simp] theorem State.popIntake_port_answer : s.popIntake.port.answer = s.port.answer := rfl
@[simp] theorem State.popIntake_notices : s.popIntake.notices = s.notices := rfl
@[simp] theorem State.popIntake_bayA : s.popIntake.bayA = s.bayA := rfl
@[simp] theorem State.popIntake_bayB : s.popIntake.bayB = s.bayB := rfl
@[simp] theorem State.popIntake_swap : s.popIntake.swap = s.swap := rfl
@[simp] theorem State.popIntake_swapWindow : s.popIntake.swapWindow = s.swapWindow := rfl
@[simp] theorem State.popIntake_link : s.popIntake.link = s.link := rfl
@[simp] theorem State.popIntake_power : s.popIntake.power = s.power := rfl
@[simp] theorem State.popIntake_holds : s.popIntake.holds = s.holds := rfl
@[simp] theorem State.popIntake_bright : s.popIntake.bright = s.bright := rfl
@[simp] theorem State.popIntake_drop : s.popIntake.drop = s.drop := rfl
@[simp] theorem State.popIntake_impact : s.popIntake.impact = s.impact := rfl
@[simp] theorem State.popIntake_settings : s.popIntake.settings = s.settings := rfl
@[simp] theorem State.popIntake_free : s.popIntake.free = s.free := rfl
@[simp] theorem State.popIntake_pending : s.popIntake.pending = s.pending := rfl
@[simp] theorem State.popIntake_port_intake :
    s.popIntake.port.intake = s.port.intake.tail := rfl
@[simp] theorem State.popIntake_bay (d : Bay) : s.popIntake.bay d = s.bay d := rfl
@[simp] theorem State.popIntake_swapOf (d : Bay) : s.popIntake.swapOf d = s.swapOf d := rfl
@[simp] theorem State.popIntake_uptime : s.popIntake.uptime = s.uptime := rfl

/-! ### reply -/

@[simp] theorem State.reply_clock (a : PortAnswer) : (s.reply a).clock = s.clock := rfl
@[simp] theorem State.reply_pins (a : PortAnswer) : (s.reply a).pins = s.pins := rfl
@[simp] theorem State.reply_port_memory (a : PortAnswer) : (s.reply a).port.memory = s.port.memory := rfl
@[simp] theorem State.reply_port_startUp (a : PortAnswer) : (s.reply a).port.startUp = s.port.startUp := rfl
@[simp] theorem State.reply_port_careReset (a : PortAnswer) : (s.reply a).port.careReset = s.port.careReset := rfl
@[simp] theorem State.reply_port_acceptance (a : PortAnswer) : (s.reply a).port.acceptance = s.port.acceptance := rfl
@[simp] theorem State.reply_port_intake (a : PortAnswer) : (s.reply a).port.intake = s.port.intake := rfl
@[simp] theorem State.reply_notices (a : PortAnswer) : (s.reply a).notices = s.notices := rfl
@[simp] theorem State.reply_bayA (a : PortAnswer) : (s.reply a).bayA = s.bayA := rfl
@[simp] theorem State.reply_bayB (a : PortAnswer) : (s.reply a).bayB = s.bayB := rfl
@[simp] theorem State.reply_swap (a : PortAnswer) : (s.reply a).swap = s.swap := rfl
@[simp] theorem State.reply_swapWindow (a : PortAnswer) : (s.reply a).swapWindow = s.swapWindow := rfl
@[simp] theorem State.reply_link (a : PortAnswer) : (s.reply a).link = s.link := rfl
@[simp] theorem State.reply_power (a : PortAnswer) : (s.reply a).power = s.power := rfl
@[simp] theorem State.reply_holds (a : PortAnswer) : (s.reply a).holds = s.holds := rfl
@[simp] theorem State.reply_bright (a : PortAnswer) : (s.reply a).bright = s.bright := rfl
@[simp] theorem State.reply_drop (a : PortAnswer) : (s.reply a).drop = s.drop := rfl
@[simp] theorem State.reply_impact (a : PortAnswer) : (s.reply a).impact = s.impact := rfl
@[simp] theorem State.reply_settings (a : PortAnswer) : (s.reply a).settings = s.settings := rfl
@[simp] theorem State.reply_free (a : PortAnswer) : (s.reply a).free = s.free := rfl
@[simp] theorem State.reply_pending (a : PortAnswer) : (s.reply a).pending = s.pending := rfl
@[simp] theorem State.reply_port_answer (a : PortAnswer) :
    (s.reply a).port.answer = some a := rfl
@[simp] theorem State.reply_bay (a : PortAnswer) (d : Bay) : (s.reply a).bay d = s.bay d := rfl
@[simp] theorem State.reply_swapOf (a : PortAnswer) (d : Bay) : (s.reply a).swapOf d = s.swapOf d := rfl
@[simp] theorem State.reply_uptime (a : PortAnswer) : (s.reply a).uptime = s.uptime := rfl

/-! ### silent -/

@[simp] theorem State.silent_clock : s.silent.clock = s.clock := rfl
@[simp] theorem State.silent_pins : s.silent.pins = s.pins := rfl
@[simp] theorem State.silent_port_memory : s.silent.port.memory = s.port.memory := rfl
@[simp] theorem State.silent_port_startUp : s.silent.port.startUp = s.port.startUp := rfl
@[simp] theorem State.silent_port_careReset : s.silent.port.careReset = s.port.careReset := rfl
@[simp] theorem State.silent_port_acceptance : s.silent.port.acceptance = s.port.acceptance := rfl
@[simp] theorem State.silent_port_intake : s.silent.port.intake = s.port.intake := rfl
@[simp] theorem State.silent_notices : s.silent.notices = s.notices := rfl
@[simp] theorem State.silent_bayA : s.silent.bayA = s.bayA := rfl
@[simp] theorem State.silent_bayB : s.silent.bayB = s.bayB := rfl
@[simp] theorem State.silent_swap : s.silent.swap = s.swap := rfl
@[simp] theorem State.silent_swapWindow : s.silent.swapWindow = s.swapWindow := rfl
@[simp] theorem State.silent_link : s.silent.link = s.link := rfl
@[simp] theorem State.silent_power : s.silent.power = s.power := rfl
@[simp] theorem State.silent_holds : s.silent.holds = s.holds := rfl
@[simp] theorem State.silent_bright : s.silent.bright = s.bright := rfl
@[simp] theorem State.silent_drop : s.silent.drop = s.drop := rfl
@[simp] theorem State.silent_impact : s.silent.impact = s.impact := rfl
@[simp] theorem State.silent_settings : s.silent.settings = s.settings := rfl
@[simp] theorem State.silent_free : s.silent.free = s.free := rfl
@[simp] theorem State.silent_pending : s.silent.pending = s.pending := rfl
@[simp] theorem State.silent_port_answer :
    s.silent.port.answer = none := rfl
@[simp] theorem State.silent_bay (d : Bay) : s.silent.bay d = s.bay d := rfl
@[simp] theorem State.silent_swapOf (d : Bay) : s.silent.swapOf d = s.swapOf d := rfl
@[simp] theorem State.silent_uptime : s.silent.uptime = s.uptime := rfl

/-! ### setNews -/

@[simp] theorem State.setNews_clock (bits : Byte) : (s.setNews bits).clock = s.clock := rfl
@[simp] theorem State.setNews_pins (bits : Byte) : (s.setNews bits).pins = s.pins := rfl
@[simp] theorem State.setNews_port (bits : Byte) : (s.setNews bits).port = s.port := rfl
@[simp] theorem State.setNews_notices_bottom (bits : Byte) : (s.setNews bits).notices.bottom = s.notices.bottom := rfl
@[simp] theorem State.setNews_notices_top (bits : Byte) : (s.setNews bits).notices.top = s.notices.top := rfl
@[simp] theorem State.setNews_notices_entries (bits : Byte) : (s.setNews bits).notices.entries = s.notices.entries := rfl
@[simp] theorem State.setNews_notices_counter (bits : Byte) : (s.setNews bits).notices.counter = s.notices.counter := rfl
@[simp] theorem State.setNews_notices_deferred (bits : Byte) : (s.setNews bits).notices.deferred = s.notices.deferred := rfl
@[simp] theorem State.setNews_notices_mask (bits : Byte) : (s.setNews bits).notices.mask = s.notices.mask := rfl
@[simp] theorem State.setNews_notices_attention (bits : Byte) : (s.setNews bits).notices.attention = s.notices.attention := rfl
@[simp] theorem State.setNews_bayA (bits : Byte) : (s.setNews bits).bayA = s.bayA := rfl
@[simp] theorem State.setNews_bayB (bits : Byte) : (s.setNews bits).bayB = s.bayB := rfl
@[simp] theorem State.setNews_swap (bits : Byte) : (s.setNews bits).swap = s.swap := rfl
@[simp] theorem State.setNews_swapWindow (bits : Byte) : (s.setNews bits).swapWindow = s.swapWindow := rfl
@[simp] theorem State.setNews_link (bits : Byte) : (s.setNews bits).link = s.link := rfl
@[simp] theorem State.setNews_power (bits : Byte) : (s.setNews bits).power = s.power := rfl
@[simp] theorem State.setNews_holds (bits : Byte) : (s.setNews bits).holds = s.holds := rfl
@[simp] theorem State.setNews_bright (bits : Byte) : (s.setNews bits).bright = s.bright := rfl
@[simp] theorem State.setNews_drop (bits : Byte) : (s.setNews bits).drop = s.drop := rfl
@[simp] theorem State.setNews_impact (bits : Byte) : (s.setNews bits).impact = s.impact := rfl
@[simp] theorem State.setNews_settings (bits : Byte) : (s.setNews bits).settings = s.settings := rfl
@[simp] theorem State.setNews_free (bits : Byte) : (s.setNews bits).free = s.free := rfl
@[simp] theorem State.setNews_pending (bits : Byte) : (s.setNews bits).pending = s.pending := rfl
@[simp] theorem State.setNews_notices_news (bits : Byte) :
    (s.setNews bits).notices.news = s.notices.news ||| bits := rfl
@[simp] theorem State.setNews_bay (bits : Byte) (d : Bay) : (s.setNews bits).bay d = s.bay d := rfl
@[simp] theorem State.setNews_swapOf (bits : Byte) (d : Bay) : (s.setNews bits).swapOf d = s.swapOf d := rfl
@[simp] theorem State.setNews_uptime (bits : Byte) : (s.setNews bits).uptime = s.uptime := rfl

/-! ### clearNews -/

@[simp] theorem State.clearNews_clock (bits : Byte) : (s.clearNews bits).clock = s.clock := rfl
@[simp] theorem State.clearNews_pins (bits : Byte) : (s.clearNews bits).pins = s.pins := rfl
@[simp] theorem State.clearNews_port (bits : Byte) : (s.clearNews bits).port = s.port := rfl
@[simp] theorem State.clearNews_notices_bottom (bits : Byte) : (s.clearNews bits).notices.bottom = s.notices.bottom := rfl
@[simp] theorem State.clearNews_notices_top (bits : Byte) : (s.clearNews bits).notices.top = s.notices.top := rfl
@[simp] theorem State.clearNews_notices_entries (bits : Byte) : (s.clearNews bits).notices.entries = s.notices.entries := rfl
@[simp] theorem State.clearNews_notices_counter (bits : Byte) : (s.clearNews bits).notices.counter = s.notices.counter := rfl
@[simp] theorem State.clearNews_notices_deferred (bits : Byte) : (s.clearNews bits).notices.deferred = s.notices.deferred := rfl
@[simp] theorem State.clearNews_notices_mask (bits : Byte) : (s.clearNews bits).notices.mask = s.notices.mask := rfl
@[simp] theorem State.clearNews_notices_attention (bits : Byte) : (s.clearNews bits).notices.attention = s.notices.attention := rfl
@[simp] theorem State.clearNews_bayA (bits : Byte) : (s.clearNews bits).bayA = s.bayA := rfl
@[simp] theorem State.clearNews_bayB (bits : Byte) : (s.clearNews bits).bayB = s.bayB := rfl
@[simp] theorem State.clearNews_swap (bits : Byte) : (s.clearNews bits).swap = s.swap := rfl
@[simp] theorem State.clearNews_swapWindow (bits : Byte) : (s.clearNews bits).swapWindow = s.swapWindow := rfl
@[simp] theorem State.clearNews_link (bits : Byte) : (s.clearNews bits).link = s.link := rfl
@[simp] theorem State.clearNews_power (bits : Byte) : (s.clearNews bits).power = s.power := rfl
@[simp] theorem State.clearNews_holds (bits : Byte) : (s.clearNews bits).holds = s.holds := rfl
@[simp] theorem State.clearNews_bright (bits : Byte) : (s.clearNews bits).bright = s.bright := rfl
@[simp] theorem State.clearNews_drop (bits : Byte) : (s.clearNews bits).drop = s.drop := rfl
@[simp] theorem State.clearNews_impact (bits : Byte) : (s.clearNews bits).impact = s.impact := rfl
@[simp] theorem State.clearNews_settings (bits : Byte) : (s.clearNews bits).settings = s.settings := rfl
@[simp] theorem State.clearNews_free (bits : Byte) : (s.clearNews bits).free = s.free := rfl
@[simp] theorem State.clearNews_pending (bits : Byte) : (s.clearNews bits).pending = s.pending := rfl
@[simp] theorem State.clearNews_notices_news (bits : Byte) :
    (s.clearNews bits).notices.news = s.notices.news &&& ~~~bits := rfl
@[simp] theorem State.clearNews_bay (bits : Byte) (d : Bay) : (s.clearNews bits).bay d = s.bay d := rfl
@[simp] theorem State.clearNews_swapOf (bits : Byte) (d : Bay) : (s.clearNews bits).swapOf d = s.swapOf d := rfl
@[simp] theorem State.clearNews_uptime (bits : Byte) : (s.clearNews bits).uptime = s.uptime := rfl

/-! ### misuse -/

@[simp] theorem State.misuse_clock : s.misuse.clock = s.clock := rfl
@[simp] theorem State.misuse_pins : s.misuse.pins = s.pins := rfl
@[simp] theorem State.misuse_port : s.misuse.port = s.port := rfl
@[simp] theorem State.misuse_notices_bottom : s.misuse.notices.bottom = s.notices.bottom := rfl
@[simp] theorem State.misuse_notices_top : s.misuse.notices.top = s.notices.top := rfl
@[simp] theorem State.misuse_notices_entries : s.misuse.notices.entries = s.notices.entries := rfl
@[simp] theorem State.misuse_notices_counter : s.misuse.notices.counter = s.notices.counter := rfl
@[simp] theorem State.misuse_notices_deferred : s.misuse.notices.deferred = s.notices.deferred := rfl
@[simp] theorem State.misuse_notices_mask : s.misuse.notices.mask = s.notices.mask := rfl
@[simp] theorem State.misuse_notices_attention : s.misuse.notices.attention = s.notices.attention := rfl
@[simp] theorem State.misuse_bayA : s.misuse.bayA = s.bayA := rfl
@[simp] theorem State.misuse_bayB : s.misuse.bayB = s.bayB := rfl
@[simp] theorem State.misuse_swap : s.misuse.swap = s.swap := rfl
@[simp] theorem State.misuse_swapWindow : s.misuse.swapWindow = s.swapWindow := rfl
@[simp] theorem State.misuse_link : s.misuse.link = s.link := rfl
@[simp] theorem State.misuse_power : s.misuse.power = s.power := rfl
@[simp] theorem State.misuse_holds : s.misuse.holds = s.holds := rfl
@[simp] theorem State.misuse_bright : s.misuse.bright = s.bright := rfl
@[simp] theorem State.misuse_drop : s.misuse.drop = s.drop := rfl
@[simp] theorem State.misuse_impact : s.misuse.impact = s.impact := rfl
@[simp] theorem State.misuse_settings : s.misuse.settings = s.settings := rfl
@[simp] theorem State.misuse_free : s.misuse.free = s.free := rfl
@[simp] theorem State.misuse_pending : s.misuse.pending = s.pending := rfl
@[simp] theorem State.misuse_notices_news :
    s.misuse.notices.news = s.notices.news ||| newsMisuse := rfl
@[simp] theorem State.misuse_bay (d : Bay) : s.misuse.bay d = s.bay d := rfl
@[simp] theorem State.misuse_swapOf (d : Bay) : s.misuse.swapOf d = s.swapOf d := rfl
@[simp] theorem State.misuse_uptime : s.misuse.uptime = s.uptime := rfl

/-! ### draw -/

@[simp] theorem State.draw_clock : s.draw.clock = s.clock := rfl
@[simp] theorem State.draw_pins : s.draw.pins = s.pins := rfl
@[simp] theorem State.draw_port : s.draw.port = s.port := rfl
@[simp] theorem State.draw_notices : s.draw.notices = s.notices := rfl
@[simp] theorem State.draw_bayA : s.draw.bayA = s.bayA := rfl
@[simp] theorem State.draw_bayB : s.draw.bayB = s.bayB := rfl
@[simp] theorem State.draw_swap : s.draw.swap = s.swap := rfl
@[simp] theorem State.draw_swapWindow : s.draw.swapWindow = s.swapWindow := rfl
@[simp] theorem State.draw_link : s.draw.link = s.link := rfl
@[simp] theorem State.draw_power : s.draw.power = s.power := rfl
@[simp] theorem State.draw_holds : s.draw.holds = s.holds := rfl
@[simp] theorem State.draw_bright : s.draw.bright = s.bright := rfl
@[simp] theorem State.draw_drop : s.draw.drop = s.drop := rfl
@[simp] theorem State.draw_impact : s.draw.impact = s.impact := rfl
@[simp] theorem State.draw_settings : s.draw.settings = s.settings := rfl
@[simp] theorem State.draw_pending : s.draw.pending = s.pending := rfl
@[simp] theorem State.draw_free :
    s.draw.free = s.free + 1 := rfl
@[simp] theorem State.draw_bay (d : Bay) : s.draw.bay d = s.bay d := rfl
@[simp] theorem State.draw_swapOf (d : Bay) : s.draw.swapOf d = s.swapOf d := rfl
@[simp] theorem State.draw_uptime : s.draw.uptime = s.uptime := rfl

/-! ### serve -/

@[simp] theorem State.serve_clock : s.serve.clock = s.clock := by
  unfold State.serve
  split <;> rfl
@[simp] theorem State.serve_pins : s.serve.pins = s.pins := by
  unfold State.serve
  split <;> rfl
@[simp] theorem State.serve_port_memory : s.serve.port.memory = s.port.memory := by
  unfold State.serve
  split <;> rfl
@[simp] theorem State.serve_port_startUp : s.serve.port.startUp = s.port.startUp := by
  unfold State.serve
  split <;> rfl
@[simp] theorem State.serve_port_careReset : s.serve.port.careReset = s.port.careReset := by
  unfold State.serve
  split <;> rfl
@[simp] theorem State.serve_port_acceptance : s.serve.port.acceptance = s.port.acceptance := by
  unfold State.serve
  split <;> rfl
@[simp] theorem State.serve_port_intake : s.serve.port.intake = s.port.intake := by
  unfold State.serve
  split <;> rfl
@[simp] theorem State.serve_notices : s.serve.notices = s.notices := by
  unfold State.serve
  split <;> rfl
@[simp] theorem State.serve_bayA : s.serve.bayA = s.bayA := by
  unfold State.serve
  split <;> rfl
@[simp] theorem State.serve_bayB : s.serve.bayB = s.bayB := by
  unfold State.serve
  split <;> rfl
@[simp] theorem State.serve_swap : s.serve.swap = s.swap := by
  unfold State.serve
  split <;> rfl
@[simp] theorem State.serve_swapWindow : s.serve.swapWindow = s.swapWindow := by
  unfold State.serve
  split <;> rfl
@[simp] theorem State.serve_link : s.serve.link = s.link := by
  unfold State.serve
  split <;> rfl
@[simp] theorem State.serve_power : s.serve.power = s.power := by
  unfold State.serve
  split <;> rfl
@[simp] theorem State.serve_holds : s.serve.holds = s.holds := by
  unfold State.serve
  split <;> rfl
@[simp] theorem State.serve_bright : s.serve.bright = s.bright := by
  unfold State.serve
  split <;> rfl
@[simp] theorem State.serve_drop : s.serve.drop = s.drop := by
  unfold State.serve
  split <;> rfl
@[simp] theorem State.serve_impact : s.serve.impact = s.impact := by
  unfold State.serve
  split <;> rfl
@[simp] theorem State.serve_settings : s.serve.settings = s.settings := by
  unfold State.serve
  split <;> rfl
@[simp] theorem State.serve_pending : s.serve.pending = s.pending := by
  unfold State.serve
  split <;> rfl
@[simp] theorem State.serve_bay (d : Bay) : s.serve.bay d = s.bay d := by
  unfold State.serve
  split <;> rfl
@[simp] theorem State.serve_swapOf (d : Bay) : s.serve.swapOf d = s.swapOf d := by
  unfold State.serve
  split <;> rfl
@[simp] theorem State.serve_uptime : s.serve.uptime = s.uptime := by
  unfold State.serve
  split <;> rfl

/-! ### endFrame -/

@[simp] theorem State.endFrame_clock : s.endFrame.clock = s.clock := rfl
@[simp] theorem State.endFrame_pins : s.endFrame.pins = s.pins := rfl
@[simp] theorem State.endFrame_port_memory : s.endFrame.port.memory = s.port.memory := rfl
@[simp] theorem State.endFrame_port_startUp : s.endFrame.port.startUp = s.port.startUp := rfl
@[simp] theorem State.endFrame_port_careReset : s.endFrame.port.careReset = s.port.careReset := rfl
@[simp] theorem State.endFrame_port_acceptance : s.endFrame.port.acceptance = s.port.acceptance := rfl
@[simp] theorem State.endFrame_port_intake : s.endFrame.port.intake = s.port.intake := rfl
@[simp] theorem State.endFrame_notices : s.endFrame.notices = s.notices := rfl
@[simp] theorem State.endFrame_bayA : s.endFrame.bayA = s.bayA := rfl
@[simp] theorem State.endFrame_bayB : s.endFrame.bayB = s.bayB := rfl
@[simp] theorem State.endFrame_swap : s.endFrame.swap = s.swap := rfl
@[simp] theorem State.endFrame_swapWindow : s.endFrame.swapWindow = s.swapWindow := rfl
@[simp] theorem State.endFrame_link : s.endFrame.link = s.link := rfl
@[simp] theorem State.endFrame_power : s.endFrame.power = s.power := rfl
@[simp] theorem State.endFrame_holds : s.endFrame.holds = s.holds := rfl
@[simp] theorem State.endFrame_bright : s.endFrame.bright = s.bright := rfl
@[simp] theorem State.endFrame_drop : s.endFrame.drop = s.drop := rfl
@[simp] theorem State.endFrame_impact : s.endFrame.impact = s.impact := rfl
@[simp] theorem State.endFrame_settings : s.endFrame.settings = s.settings := rfl
@[simp] theorem State.endFrame_free : s.endFrame.free = s.free := rfl
@[simp] theorem State.endFrame_pending : s.endFrame.pending = s.pending := rfl
@[simp] theorem State.endFrame_port_answer :
    s.endFrame.port.answer = s.port.answer.bind PortAnswer.lineFallen := rfl
@[simp] theorem State.endFrame_bay (d : Bay) : s.endFrame.bay d = s.bay d := rfl
@[simp] theorem State.endFrame_swapOf (d : Bay) : s.endFrame.swapOf d = s.swapOf d := rfl
@[simp] theorem State.endFrame_uptime : s.endFrame.uptime = s.uptime := rfl

/-! ### setHostPresent -/

@[simp] theorem State.setHostPresent_clock (level : Bool) : (s.setHostPresent level).clock = s.clock := rfl
@[simp] theorem State.setHostPresent_notices (level : Bool) : (s.setHostPresent level).notices = s.notices := rfl
@[simp] theorem State.setHostPresent_bayA (level : Bool) : (s.setHostPresent level).bayA = s.bayA := rfl
@[simp] theorem State.setHostPresent_bayB (level : Bool) : (s.setHostPresent level).bayB = s.bayB := rfl
@[simp] theorem State.setHostPresent_swap (level : Bool) : (s.setHostPresent level).swap = s.swap := rfl
@[simp] theorem State.setHostPresent_swapWindow (level : Bool) : (s.setHostPresent level).swapWindow = s.swapWindow := rfl
@[simp] theorem State.setHostPresent_link (level : Bool) : (s.setHostPresent level).link = s.link := rfl
@[simp] theorem State.setHostPresent_power (level : Bool) : (s.setHostPresent level).power = s.power := rfl
@[simp] theorem State.setHostPresent_holds (level : Bool) : (s.setHostPresent level).holds = s.holds := rfl
@[simp] theorem State.setHostPresent_bright (level : Bool) : (s.setHostPresent level).bright = s.bright := rfl
@[simp] theorem State.setHostPresent_drop (level : Bool) : (s.setHostPresent level).drop = s.drop := rfl
@[simp] theorem State.setHostPresent_impact (level : Bool) : (s.setHostPresent level).impact = s.impact := rfl
@[simp] theorem State.setHostPresent_settings (level : Bool) : (s.setHostPresent level).settings = s.settings := rfl
@[simp] theorem State.setHostPresent_free (level : Bool) : (s.setHostPresent level).free = s.free := rfl
@[simp] theorem State.setHostPresent_pending (level : Bool) : (s.setHostPresent level).pending = s.pending := rfl
@[simp] theorem State.setHostPresent_port (level : Bool) : (s.setHostPresent level).port = s.port := rfl
@[simp] theorem State.setHostPresent_pins (level : Bool) :
    (s.setHostPresent level).pins = { s.pins with hostPresent := level } := rfl
@[simp] theorem State.setHostPresent_bay (level : Bool) (d : Bay) : (s.setHostPresent level).bay d = s.bay d := rfl
@[simp] theorem State.setHostPresent_swapOf (level : Bool) (d : Bay) : (s.setHostPresent level).swapOf d = s.swapOf d := rfl
@[simp] theorem State.setHostPresent_uptime (level : Bool) : (s.setHostPresent level).uptime = s.uptime := rfl

/-! ### putImpact -/

@[simp] theorem State.putImpact_clock (u : ImpactStore) : (s.putImpact u).clock = s.clock := rfl
@[simp] theorem State.putImpact_pins (u : ImpactStore) : (s.putImpact u).pins = s.pins := rfl
@[simp] theorem State.putImpact_port_startUp (u : ImpactStore) : (s.putImpact u).port.startUp = s.port.startUp := rfl
@[simp] theorem State.putImpact_port_careReset (u : ImpactStore) : (s.putImpact u).port.careReset = s.port.careReset := rfl
@[simp] theorem State.putImpact_port_acceptance (u : ImpactStore) : (s.putImpact u).port.acceptance = s.port.acceptance := rfl
@[simp] theorem State.putImpact_port_intake (u : ImpactStore) : (s.putImpact u).port.intake = s.port.intake := rfl
@[simp] theorem State.putImpact_port_answer (u : ImpactStore) : (s.putImpact u).port.answer = s.port.answer := rfl
@[simp] theorem State.putImpact_notices (u : ImpactStore) : (s.putImpact u).notices = s.notices := rfl
@[simp] theorem State.putImpact_bayA (u : ImpactStore) : (s.putImpact u).bayA = s.bayA := rfl
@[simp] theorem State.putImpact_bayB (u : ImpactStore) : (s.putImpact u).bayB = s.bayB := rfl
@[simp] theorem State.putImpact_swap (u : ImpactStore) : (s.putImpact u).swap = s.swap := rfl
@[simp] theorem State.putImpact_swapWindow (u : ImpactStore) : (s.putImpact u).swapWindow = s.swapWindow := rfl
@[simp] theorem State.putImpact_link (u : ImpactStore) : (s.putImpact u).link = s.link := rfl
@[simp] theorem State.putImpact_power (u : ImpactStore) : (s.putImpact u).power = s.power := rfl
@[simp] theorem State.putImpact_holds (u : ImpactStore) : (s.putImpact u).holds = s.holds := rfl
@[simp] theorem State.putImpact_bright (u : ImpactStore) : (s.putImpact u).bright = s.bright := rfl
@[simp] theorem State.putImpact_drop (u : ImpactStore) : (s.putImpact u).drop = s.drop := rfl
@[simp] theorem State.putImpact_settings (u : ImpactStore) : (s.putImpact u).settings = s.settings := rfl
@[simp] theorem State.putImpact_free (u : ImpactStore) : (s.putImpact u).free = s.free := rfl
@[simp] theorem State.putImpact_pending (u : ImpactStore) : (s.putImpact u).pending = s.pending := rfl
@[simp] theorem State.putImpact_impact (u : ImpactStore) : (s.putImpact u).impact = u := rfl
theorem State.putImpact_port_memory (u : ImpactStore) :
    (s.putImpact u).port.memory =
      if s.port.careReset then s.port.memory else rewritePlaces false s.impact.places 0 u.places s.port.memory := rfl
@[simp] theorem State.putImpact_bay (u : ImpactStore) (d : Bay) : (s.putImpact u).bay d = s.bay d := rfl
@[simp] theorem State.putImpact_swapOf (u : ImpactStore) (d : Bay) : (s.putImpact u).swapOf d = s.swapOf d := rfl
@[simp] theorem State.putImpact_uptime (u : ImpactStore) : (s.putImpact u).uptime = s.uptime := rfl

/-! ### setDrop -/

@[simp] theorem State.setDrop_clock (m : DropMonitor) : (s.setDrop m).clock = s.clock := rfl
@[simp] theorem State.setDrop_pins (m : DropMonitor) : (s.setDrop m).pins = s.pins := rfl
@[simp] theorem State.setDrop_port (m : DropMonitor) : (s.setDrop m).port = s.port := rfl
@[simp] theorem State.setDrop_notices (m : DropMonitor) : (s.setDrop m).notices = s.notices := rfl
@[simp] theorem State.setDrop_bayA (m : DropMonitor) : (s.setDrop m).bayA = s.bayA := rfl
@[simp] theorem State.setDrop_bayB (m : DropMonitor) : (s.setDrop m).bayB = s.bayB := rfl
@[simp] theorem State.setDrop_swap (m : DropMonitor) : (s.setDrop m).swap = s.swap := rfl
@[simp] theorem State.setDrop_swapWindow (m : DropMonitor) : (s.setDrop m).swapWindow = s.swapWindow := rfl
@[simp] theorem State.setDrop_link (m : DropMonitor) : (s.setDrop m).link = s.link := rfl
@[simp] theorem State.setDrop_power (m : DropMonitor) : (s.setDrop m).power = s.power := rfl
@[simp] theorem State.setDrop_holds (m : DropMonitor) : (s.setDrop m).holds = s.holds := rfl
@[simp] theorem State.setDrop_bright (m : DropMonitor) : (s.setDrop m).bright = s.bright := rfl
@[simp] theorem State.setDrop_impact (m : DropMonitor) : (s.setDrop m).impact = s.impact := rfl
@[simp] theorem State.setDrop_settings (m : DropMonitor) : (s.setDrop m).settings = s.settings := rfl
@[simp] theorem State.setDrop_free (m : DropMonitor) : (s.setDrop m).free = s.free := rfl
@[simp] theorem State.setDrop_pending (m : DropMonitor) : (s.setDrop m).pending = s.pending := rfl
@[simp] theorem State.setDrop_drop (m : DropMonitor) :
    (s.setDrop m).drop = m := rfl
@[simp] theorem State.setDrop_bay (m : DropMonitor) (d : Bay) : (s.setDrop m).bay d = s.bay d := rfl
@[simp] theorem State.setDrop_swapOf (m : DropMonitor) (d : Bay) : (s.setDrop m).swapOf d = s.swapOf d := rfl
@[simp] theorem State.setDrop_uptime (m : DropMonitor) : (s.setDrop m).uptime = s.uptime := rfl

/-! ### putBay -/

@[simp] theorem State.putBay_clock (b : Bay) (c : BayContext) : (s.putBay b c).clock = s.clock := rfl
@[simp] theorem State.putBay_pins (b : Bay) (c : BayContext) : (s.putBay b c).pins = s.pins := rfl
@[simp] theorem State.putBay_port (b : Bay) (c : BayContext) : (s.putBay b c).port = s.port := rfl
@[simp] theorem State.putBay_notices_bottom (b : Bay) (c : BayContext) : (s.putBay b c).notices.bottom = s.notices.bottom := rfl
@[simp] theorem State.putBay_notices_top (b : Bay) (c : BayContext) : (s.putBay b c).notices.top = s.notices.top := rfl
@[simp] theorem State.putBay_notices_entries (b : Bay) (c : BayContext) : (s.putBay b c).notices.entries = s.notices.entries := rfl
@[simp] theorem State.putBay_notices_counter (b : Bay) (c : BayContext) : (s.putBay b c).notices.counter = s.notices.counter := rfl
@[simp] theorem State.putBay_notices_deferred (b : Bay) (c : BayContext) : (s.putBay b c).notices.deferred = s.notices.deferred := rfl
@[simp] theorem State.putBay_notices_mask (b : Bay) (c : BayContext) : (s.putBay b c).notices.mask = s.notices.mask := rfl
@[simp] theorem State.putBay_notices_attention (b : Bay) (c : BayContext) : (s.putBay b c).notices.attention = s.notices.attention := rfl
@[simp] theorem State.putBay_swap (b : Bay) (c : BayContext) : (s.putBay b c).swap = s.swap := rfl
@[simp] theorem State.putBay_swapWindow (b : Bay) (c : BayContext) : (s.putBay b c).swapWindow = s.swapWindow := rfl
@[simp] theorem State.putBay_link (b : Bay) (c : BayContext) : (s.putBay b c).link = s.link := rfl
@[simp] theorem State.putBay_holds (b : Bay) (c : BayContext) : (s.putBay b c).holds = s.holds := rfl
@[simp] theorem State.putBay_bright (b : Bay) (c : BayContext) : (s.putBay b c).bright = s.bright := rfl
@[simp] theorem State.putBay_drop (b : Bay) (c : BayContext) : (s.putBay b c).drop = s.drop := rfl
@[simp] theorem State.putBay_impact (b : Bay) (c : BayContext) : (s.putBay b c).impact = s.impact := rfl
@[simp] theorem State.putBay_settings (b : Bay) (c : BayContext) : (s.putBay b c).settings = s.settings := rfl
@[simp] theorem State.putBay_free (b : Bay) (c : BayContext) : (s.putBay b c).free = s.free := rfl
@[simp] theorem State.putBay_pending (b : Bay) (c : BayContext) : (s.putBay b c).pending = s.pending := rfl
@[simp] theorem State.putBay_power (b : Bay) (c : BayContext) :
    (s.putBay b c).power = s.power.bayLeft b (s.bay b) c := rfl
@[simp] theorem State.putBay_notices_news (b : Bay) (c : BayContext) :
    (s.putBay b c).notices.news = if bayNews (s.bay b) c then s.notices.news ||| newsBay else s.notices.news := rfl
@[simp] theorem State.putBay_swapOf (b : Bay) (c : BayContext) (d : Bay) : (s.putBay b c).swapOf d = s.swapOf d := rfl
@[simp] theorem State.putBay_uptime (b : Bay) (c : BayContext) : (s.putBay b c).uptime = s.uptime := rfl

/-! ### putSwap -/

@[simp] theorem State.putSwap_clock (w : Option SwapContext) : (s.putSwap w).clock = s.clock := rfl
@[simp] theorem State.putSwap_pins (w : Option SwapContext) : (s.putSwap w).pins = s.pins := rfl
@[simp] theorem State.putSwap_port (w : Option SwapContext) : (s.putSwap w).port = s.port := rfl
@[simp] theorem State.putSwap_notices_bottom (w : Option SwapContext) : (s.putSwap w).notices.bottom = s.notices.bottom := rfl
@[simp] theorem State.putSwap_notices_top (w : Option SwapContext) : (s.putSwap w).notices.top = s.notices.top := rfl
@[simp] theorem State.putSwap_notices_entries (w : Option SwapContext) : (s.putSwap w).notices.entries = s.notices.entries := rfl
@[simp] theorem State.putSwap_notices_counter (w : Option SwapContext) : (s.putSwap w).notices.counter = s.notices.counter := rfl
@[simp] theorem State.putSwap_notices_deferred (w : Option SwapContext) : (s.putSwap w).notices.deferred = s.notices.deferred := rfl
@[simp] theorem State.putSwap_notices_mask (w : Option SwapContext) : (s.putSwap w).notices.mask = s.notices.mask := rfl
@[simp] theorem State.putSwap_notices_attention (w : Option SwapContext) : (s.putSwap w).notices.attention = s.notices.attention := rfl
@[simp] theorem State.putSwap_bayA (w : Option SwapContext) : (s.putSwap w).bayA = s.bayA := rfl
@[simp] theorem State.putSwap_bayB (w : Option SwapContext) : (s.putSwap w).bayB = s.bayB := rfl
@[simp] theorem State.putSwap_swapWindow (w : Option SwapContext) : (s.putSwap w).swapWindow = s.swapWindow := rfl
@[simp] theorem State.putSwap_link (w : Option SwapContext) : (s.putSwap w).link = s.link := rfl
@[simp] theorem State.putSwap_power (w : Option SwapContext) : (s.putSwap w).power = s.power := rfl
@[simp] theorem State.putSwap_holds (w : Option SwapContext) : (s.putSwap w).holds = s.holds := rfl
@[simp] theorem State.putSwap_bright (w : Option SwapContext) : (s.putSwap w).bright = s.bright := rfl
@[simp] theorem State.putSwap_drop (w : Option SwapContext) : (s.putSwap w).drop = s.drop := rfl
@[simp] theorem State.putSwap_impact (w : Option SwapContext) : (s.putSwap w).impact = s.impact := rfl
@[simp] theorem State.putSwap_settings (w : Option SwapContext) : (s.putSwap w).settings = s.settings := rfl
@[simp] theorem State.putSwap_free (w : Option SwapContext) : (s.putSwap w).free = s.free := rfl
@[simp] theorem State.putSwap_pending (w : Option SwapContext) : (s.putSwap w).pending = s.pending := rfl
@[simp] theorem State.putSwap_swap (w : Option SwapContext) :
    (s.putSwap w).swap = w := rfl
@[simp] theorem State.putSwap_notices_news (w : Option SwapContext) :
    (s.putSwap w).notices.news = if s.swap = w then s.notices.news else s.notices.news ||| newsBay := rfl
@[simp] theorem State.putSwap_bay (w : Option SwapContext) (d : Bay) : (s.putSwap w).bay d = s.bay d := rfl
@[simp] theorem State.putSwap_uptime (w : Option SwapContext) : (s.putSwap w).uptime = s.uptime := rfl

/-! ### driveLines -/

@[simp] theorem State.driveLines_clock : s.driveLines.clock = s.clock := rfl
@[simp] theorem State.driveLines_pins : s.driveLines.pins = s.pins := rfl
@[simp] theorem State.driveLines_port : s.driveLines.port = s.port := rfl
@[simp] theorem State.driveLines_notices_bottom : s.driveLines.notices.bottom = s.notices.bottom := rfl
@[simp] theorem State.driveLines_notices_top : s.driveLines.notices.top = s.notices.top := rfl
@[simp] theorem State.driveLines_notices_entries : s.driveLines.notices.entries = s.notices.entries := rfl
@[simp] theorem State.driveLines_notices_counter : s.driveLines.notices.counter = s.notices.counter := rfl
@[simp] theorem State.driveLines_notices_deferred : s.driveLines.notices.deferred = s.notices.deferred := rfl
@[simp] theorem State.driveLines_notices_mask : s.driveLines.notices.mask = s.notices.mask := rfl
@[simp] theorem State.driveLines_bayA : s.driveLines.bayA = s.bayA := rfl
@[simp] theorem State.driveLines_bayB : s.driveLines.bayB = s.bayB := rfl
@[simp] theorem State.driveLines_swap : s.driveLines.swap = s.swap := rfl
@[simp] theorem State.driveLines_swapWindow : s.driveLines.swapWindow = s.swapWindow := rfl
@[simp] theorem State.driveLines_link : s.driveLines.link = s.link := rfl
@[simp] theorem State.driveLines_bright : s.driveLines.bright = s.bright := rfl
@[simp] theorem State.driveLines_drop : s.driveLines.drop = s.drop := rfl
@[simp] theorem State.driveLines_impact : s.driveLines.impact = s.impact := rfl
@[simp] theorem State.driveLines_settings : s.driveLines.settings = s.settings := rfl
@[simp] theorem State.driveLines_free : s.driveLines.free = s.free := rfl
@[simp] theorem State.driveLines_pending : s.driveLines.pending = s.pending := rfl
@[simp] theorem State.driveLines_holds :
    s.driveLines.holds = { s.holds with storageGuard := s.storageGuardLevel } := rfl
@[simp] theorem State.driveLines_power :
    s.driveLines.power = { s.power with hibernate := s.hibernateLevel } := rfl
@[simp] theorem State.driveLines_notices_news :
    s.driveLines.notices.news = if s.hibernateLevel = s.power.hibernate then s.notices.news else s.notices.news ||| newsPower := rfl
@[simp] theorem State.driveLines_bay (d : Bay) : s.driveLines.bay d = s.bay d := rfl
@[simp] theorem State.driveLines_swapOf (d : Bay) : s.driveLines.swapOf d = s.swapOf d := rfl
@[simp] theorem State.driveLines_uptime : s.driveLines.uptime = s.uptime := rfl

/-! ### One bay of the two -/

@[simp] theorem otherBay_ne (b : Bay) : otherBay b ≠ b := by cases b <;> decide
@[simp] theorem otherBay_otherBay (b : Bay) : otherBay (otherBay b) = b := by cases b <;> rfl

@[simp] theorem State.bay_setBay (b : Bay) (c : BayContext) : (s.setBay b c).bay b = c := by cases b <;> rfl
@[simp] theorem State.bay_setBay_other (b : Bay) (c : BayContext) :
    (s.setBay b c).bay (otherBay b) = s.bay (otherBay b) := by cases b <;> rfl
theorem State.bay_setBay_ne {b d : Bay} (h : d ≠ b) (c : BayContext) : (s.setBay b c).bay d = s.bay d := by
  cases b <;> cases d <;> first | rfl | exact absurd rfl h

@[simp] theorem State.bay_putBay (b : Bay) (c : BayContext) : (s.putBay b c).bay b = c := by cases b <;> rfl
@[simp] theorem State.bay_putBay_other (b : Bay) (c : BayContext) :
    (s.putBay b c).bay (otherBay b) = s.bay (otherBay b) := by cases b <;> rfl
theorem State.bay_putBay_ne {b d : Bay} (h : d ≠ b) (c : BayContext) : (s.putBay b c).bay d = s.bay d := by
  cases b <;> cases d <;> first | rfl | exact absurd rfl h

@[simp] theorem State.bayPins_setBayPins (b : Bay) (p : BayPins) : (s.setBayPins b p).bayPins b = p := by cases b <;> rfl
@[simp] theorem State.setBayPins_dc (b : Bay) (p : BayPins) : (s.setBayPins b p).pins.dcPresent = s.pins.dcPresent := rfl
@[simp] theorem State.setBayPins_host (b : Bay) (p : BayPins) : (s.setBayPins b p).pins.hostPresent = s.pins.hostPresent :=
  rfl

end Sys2Proof.Machine
end

