-- ==== Sys2Proof/Laws/Frames.lean ====
section
/-! SUPPORT. Frames: how they compose, and what the end of a command adds to the frame of its work. -/

namespace Sys2Proof.Machine

/-! ### Composition -/

theorem Kept.refl (s : State) : Kept [] s s := by
  intro p _
  cases p <;> rfl

theorem Same.trans {s t u : State} {p : Part} (h : Same s t p) (h' : Same t u p) : Same s u p := by
  cases p <;> exact Eq.trans h' h

theorem Kept.trans {L : List Part} {s t u : State} (h : Kept L s t) (h' : Kept L t u) : Kept L s u :=
  fun p hp => (h p hp).trans (h' p hp)

theorem Kept.mono {L L' : List Part} {s t : State} (h : Kept L s t) (hl : L ⊆ L') : Kept L' s t :=
  fun p hp => h p (fun hm => hp (hl hm))

theorem Kept.append {L L' : List Part} {s t u : State} (h : Kept L s t) (h' : Kept L' t u) : Kept (L ++ L') s u :=
  (h.mono (List.subset_append_left _ _)).trans (h'.mono (List.subset_append_right _ _))

theorem BytesKept.refl (s : State) : BytesKept [] s s := fun _ _ => rfl

theorem BytesKept.trans {A : List Area} {s t u : State} (h : BytesKept A s t) (h' : BytesKept A t u) : BytesKept A s u :=
  fun a ha => (h' a ha).trans (h a ha)

theorem BytesKept.mono {A A' : List Area} {s t : State} (h : BytesKept A s t) (hl : A ⊆ A') : BytesKept A' s t :=
  fun a ha => h a (fun r hr => ha r (hl hr))

theorem BytesKept.append {A A' : List Area} {s t u : State} (h : BytesKept A s t) (h' : BytesKept A' t u) :
    BytesKept (A ++ A') s u :=
  (h.mono (List.subset_append_left _ _)).trans (h'.mono (List.subset_append_right _ _))

theorem BytesKept.of_memory {s t : State} (h : t.port.memory = s.port.memory) : BytesKept [] s t := by
  intro a _
  rw [h]

/-- A frame covers an area by a larger one. -/
theorem BytesKept.widen {A A' : List Area} {s t : State} (h : BytesKept A s t)
    (hl : ∀ r ∈ A, ∃ q ∈ A', q.1 ≤ r.1 ∧ r.1 + r.2 ≤ q.1 + q.2) : BytesKept A' s t := by
  intro a ha
  apply h a
  intro r hr
  obtain ⟨q, hq, h1, h2⟩ := hl r hr
  have := ha q hq
  omega

theorem store_bytesKept (s : State) (a : Nat) (bs : List Byte) : BytesKept [(a, bs.length)] s (s.store a bs) := by
  intro x hx
  exact Memory.read_write_apart _ _ _ _ (hx (a, bs.length) (by simp))

theorem blockStore_bytesKept (s : State) (a : Nat) (bs : List Byte) :
    BytesKept [(a, bs.length)] s (s.blockStore a bs) := by
  intro x hx
  simp only [State.blockStore_port_memory]
  split
  · rfl
  · exact Memory.read_write_apart _ _ _ _ (hx (a, bs.length) (by simp))

/-! ### The sections that the end of a command rewrites -/

theorem rewriteSection_length (m : List Host.Cell) (base size : Nat) (body : List Byte) (n : Nat) (h : 8 ≤ size) :
    (leBytes 4 (Memory.readNat m (base + size - 4) 4 + 2 * n) ++ padTo (size - 8) body ++
      leBytes 4 (Memory.readNat m (base + size - 4) 4 + 2 * n)).length = size := by
  simp
  omega

/-- Rewrites of a section change no byte outside it. -/
theorem read_rewriteTimes (n base size : Nat) (body : List Byte) (m : List Host.Cell) (x : Nat) (h8 : 8 ≤ size)
    (h : n ≠ 0 → x < base ∨ base + size ≤ x) :
    Memory.read (rewriteTimes n base size body m) x = Memory.read m x := by
  unfold rewriteTimes
  split
  · rfl
  · rename_i hc
    refine Memory.read_write_apart _ _ _ _ ?_
    rw [rewriteSection_length _ _ _ _ _ h8]
    exact h hc

/-- A rewrite changes no byte outside its section. -/
theorem read_rewriteIf (c : Bool) (base size : Nat) (body : List Byte) (m : List Host.Cell) (x : Nat) (h8 : 8 ≤ size)
    (h : c = true → x < base ∨ base + size ≤ x) :
    Memory.read (rewriteIf c base size body m) x = Memory.read m x :=
  read_rewriteTimes _ _ _ _ _ _ h8 (fun hc => h (by cases c <;> simp_all))

/-- A hold set that has not changed has its section rewritten only where every section is. -/
theorem holdRewrites_same (h : HoldSet) : holdRewrites false h h = 0 := by
  unfold holdRewrites HoldSet.changes
  rw [List.filter_eq_nil_iff.mpr (by simp), List.filter_eq_nil_iff.mpr]
  · simp
  · intro e he
    simp only [HoldSet.holds, Bool.not_eq_true', Bool.not_eq_false, List.any_eq_true, decide_eq_true_eq]
    exact ⟨e, he, rfl, rfl⟩

/-- The rewrites of impact store places change no byte outside them. -/
theorem read_rewritePlaces (all : Bool) (before rs : List (Option ImpactRecord)) (i : Nat) (m : List Host.Cell) (x : Nat)
    (h : x < placeBase i ∨ placeBase (i + rs.length) ≤ x) :
    Memory.read (rewritePlaces all before i rs m) x = Memory.read m x := by
  induction rs generalizing i m with
  | nil => rfl
  | cons r rs ih =>
    simp only [List.length_cons, placeBase] at h ih ⊢
    simp only [rewritePlaces]
    rw [ih (i + 1) _ (by omega)]
    split
    · refine Memory.read_write_apart _ _ _ _ ?_
      simp [placeBase]
      omega
    · rfl

/-- With unchanged places nothing is rewritten. -/
theorem rewritePlaces_same (before rs : List (Option ImpactRecord)) (i : Nat) (m : List Host.Cell)
    (h : ∀ j, (hj : j < rs.length) → before.getD (i + j) none = rs[j]) :
    rewritePlaces false before i rs m = m := by
  induction rs generalizing i m with
  | nil => rfl
  | cons r rs ih =>
    have h0 := h 0 (by simp)
    simp only [Nat.add_zero, List.getElem_cons_zero] at h0
    simp only [rewritePlaces, h0, bne_self_eq_false, Bool.or_false]
    apply ih
    intro j hj
    have := h (j + 1) (by simpa using hj)
    rw [show i + 1 + j = i + (j + 1) by omega]
    simpa using this

/-- A hand-over to the impact store writes no byte outside the impact store area (R167). -/
theorem putImpact_bytesKept (s : State) (u : ImpactStore) (h : u.places.length ≤ 16) :
    BytesKept [impactArea] s (s.putImpact u) := by
  intro x hx
  have := hx impactArea (by simp)
  simp only [State.putImpact_port_memory]
  split
  · rfl
  · refine read_rewritePlaces _ _ _ _ _ _ ?_
    simp only [impactArea, placeBase] at this ⊢
    omega

/-- A hand-over that changes no place writes nothing (R167). -/
theorem putImpact_same (s : State) (u : ImpactStore) (h : u.places = s.impact.places) :
    (s.putImpact u).port.memory = s.port.memory := by
  rw [State.putImpact_port_memory, h, rewritePlaces_same, ite_self]
  intro j hj
  rw [Nat.zero_add, List.getD_eq_getElem?_getD, List.getElem?_eq_getElem hj, Option.getD_some]

/-! ### The end of a command -/

/-- The levels of the lines follow from the parts that they read. -/
theorem hibernateLevel_of_kept {L : List Part} {s a : State} (h : Kept L s a) (hp : Part.power ∉ L) :
    a.hibernateLevel = s.hibernateLevel := by
  have hi : a.power.inner = s.power.inner := h _ hp
  have h1 : a.power.episode = s.power.episode :=
    (congrArg PowerUnit.episode hi : a.power.inner.episode = s.power.inner.episode)
  have h2 : a.power.platform = s.power.platform :=
    (congrArg PowerUnit.platform hi : a.power.inner.platform = s.power.inner.platform)
  simp only [State.hibernateLevel, PowerUnit.critical, h1, h2]

theorem platform_of_kept {L : List Part} {s a : State} (h : Kept L s a) (hp : Part.power ∉ L) :
    a.power.platform = s.power.platform := by
  have hi : a.power.inner = s.power.inner := h _ hp
  exact (congrArg PowerUnit.platform hi : a.power.inner.platform = s.power.inner.platform)

theorem storageGuardLevel_of_kept {L : List Part} {s a : State} (h : Kept L s a) (hp : Part.power ∉ L)
    (hh : Part.holds ∉ L) : a.storageGuardLevel = s.storageGuardLevel := by
  have e1 : a.holds.entries = s.holds.entries := h _ hh
  unfold State.storageGuardLevel HoldSet.inForce HoldSet.count
  rw [e1, platform_of_kept h hp]

theorem powerUnit_ext {p q : PowerUnit} (h : p.inner = q.inner) (h' : p.hibernate = q.hibernate) :
    p = q := by
  cases p
  cases q
  simp only [PowerUnit.inner, PowerUnit.mk.injEq] at h h' ⊢
  tauto

/-- The news bits at the end of a command that leaves the power unit as it was, are those that its work set. -/
theorem finished_news {L : List Part} {s a : State} (w : Rewrites) (hs : s.LinesHold) (h : Kept L s a)
    (hp : Part.power ∉ L) (hh : Part.hibernate ∉ L) :
    (State.refresh s w a.driveLines).notices.news = a.notices.news := by
  have h1 := hibernateLevel_of_kept h hp
  have h2 : a.power.hibernate = s.power.hibernate := h _ hh
  show a.driveLines.notices.news = _
  rw [State.driveLines_notices_news, if_pos]
  rw [h1, h2, hs.2.2]

/-- Every command leaves the lines at their levels. -/
theorem finished_lines (s : State) (w : Rewrites) (a : State) : (State.refresh s w a.driveLines).LinesHold :=
  ⟨rfl, rfl, rfl⟩

/-- The frame of a command, from the frame of its work: the lines move only with the parts that they follow. -/
theorem Kept.finished {L : List Part} {s a : State} (w : Rewrites) (hs : s.LinesHold) (h : Kept L s a)
    (hp : Part.power ∉ L) (hh : Part.hibernate ∉ L)
    (L' : List Part) (hl : L ⊆ L') (h1 : Part.holds ∈ L → Part.storageGuard ∈ L')
    (h2 : Part.news ∈ L ∨ Part.mask ∈ L ∨ Part.pins ∈ L → Part.attention ∈ L') :
    Kept L' s (State.refresh s w a.driveLines) := by
  intro p hp'
  have hpl : p ∉ L := fun hm => hp' (hl hm)
  have hn := finished_news w hs h hp hh
  have key := h p hpl
  cases p with
  | news => exact hn.trans key
  | attention =>
    have h3 : ¬ (Part.news ∈ L ∨ Part.mask ∈ L ∨ Part.pins ∈ L) := fun hm => hp' (h2 hm)
    push Not at h3
    have e1 : a.notices.news = s.notices.news := h _ h3.1
    have e2 : a.notices.mask = s.notices.mask := h _ h3.2.1
    have e3 : a.pins = s.pins := h _ h3.2.2
    have e4 := platform_of_kept h hp
    show (State.refresh s w a.driveLines).attentionLevel = s.notices.attention
    rw [hs.1]
    have e5 : (State.refresh s w a.driveLines).notices.mask = a.notices.mask := rfl
    have e6 : (State.refresh s w a.driveLines).power.platform = a.power.platform := rfl
    have e7 : (State.refresh s w a.driveLines).pins = a.pins := rfl
    simp only [State.attentionLevel, NoticeUnit.unmasked, hn, e1, e2, e3, e4, e5, e6, e7]
  | storageGuard =>
    have h3 : Part.holds ∉ L := fun hm => hp' (h1 hm)
    show a.storageGuardLevel = s.holds.storageGuard
    rw [hs.2.1, storageGuardLevel_of_kept h hp h3]
  | hibernate =>
    show a.hibernateLevel = s.power.hibernate
    rw [hs.2.2, hibernateLevel_of_kept h hp]
  | power => exact key
  | holds => exact key
  | noticeList => exact key
  | bay b => exact key
  | _ => exact key

/-- The bytes that a command leaves alone, from those that its work leaves alone: a section is rewritten only with the parts
that it shows. -/
theorem BytesKept.finished {L : List Part} {A : List Area} {s a : State} (w : Rewrites) (hs : s.LinesHold)
    (h : Kept L s a) (hb : BytesKept A s a) (hp : Part.power ∉ L) (hw : w.all = false ∧ w.places = false)
    (A' : List Area) (hl : A ⊆ A')
    (h1 : w.sources = true → sourcesArea ∈ A')
    (h2 : Part.bay .a ∈ L ∨ Part.swap ∈ L → bayArea .a ∈ A')
    (h3 : Part.bay .b ∈ L ∨ Part.swap ∈ L → bayArea .b ∈ A')
    (h4 : w.bright = true ∨ Part.bright ∈ L → brightArea ∈ A')
    (h5 : w.drop = true ∨ Part.drop ∈ L → dropArea ∈ A')
    (h6 : Part.holds ∈ L ∨ Part.storageGuard ∈ L → holdArea ∈ A') :
    BytesKept A' s (State.refresh s w a.driveLines) := by
  intro x hx
  rw [← hb.mono hl x hx]
  have hib : a.driveLines.power.hibernate = s.power.hibernate := by
    show a.hibernateLevel = s.power.hibernate
    rw [hs.2.2, hibernateLevel_of_kept h hp]
  have hpow : a.driveLines.power = s.power := by
    refine powerUnit_ext ?_ hib
    exact h _ hp
  show Memory.read (if a.driveLines.port.careReset then a.driveLines.port.memory else refreshed s w a.driveLines) x = _
  split
  · rfl
  · unfold refreshed
    simp only [hw.1, hw.2, Bool.false_or, hpow, bne_self_eq_false, Bool.or_false]
    simp only [rewriteAllPlaces, Bool.false_eq_true, if_false]
    rw [read_rewriteTimes _ _ _ _ _ _ (by decide), read_rewriteIf _ _ _ _ _ _ (by decide),
      read_rewriteIf _ _ _ _ _ _ (by decide), read_rewriteIf _ _ _ _ _ _ (by decide),
      read_rewriteIf _ _ _ _ _ _ (by decide), read_rewriteIf _ _ _ _ _ _ (by decide)]
    · rfl
    · intro hc
      exact hx _ (h1 hc)
    · intro hc
      refine hx _ (h2 ?_)
      by_contra hn
      push Not at hn
      have e1 : a.bay .a = s.bay .a := h _ hn.1
      have e2 : a.swap = s.swap := h _ hn.2
      simp [bayChanged, State.swapOf, e1, e2] at hc
    · intro hc
      refine hx _ (h3 ?_)
      by_contra hn
      push Not at hn
      have e1 : a.bay .b = s.bay .b := h _ hn.1
      have e2 : a.swap = s.swap := h _ hn.2
      simp [bayChanged, State.swapOf, e1, e2] at hc
    · intro hc
      refine hx _ (h4 ?_)
      by_contra hn
      push Not at hn
      have e1 : a.bright = s.bright := h _ hn.2
      have : w.bright = false := by simpa using hn.1
      simp [e1, this] at hc
    · intro hc
      refine hx _ (h5 ?_)
      by_contra hn
      push Not at hn
      have e1 : a.drop = s.drop := h _ hn.2
      have : w.drop = false := by simpa using hn.1
      simp [dropChanged, e1, this] at hc
    · intro hc
      refine hx _ (h6 ?_)
      by_contra hn
      push Not at hn
      have e1 : a.holds.entries = s.holds.entries := h _ hn.1
      have e2 : a.driveLines.holds = s.holds := by
        have : a.storageGuardLevel = s.holds.storageGuard := by
          rw [hs.2.1, storageGuardLevel_of_kept h hp hn.1]
        rw [State.driveLines_holds, this]
        cases hd : s.holds
        cases ha : a.holds
        simp_all
      rw [e2, holdRewrites_same] at hc
      exact hc rfl

end Sys2Proof.Machine
end

