-- ==== Sys2Proof/Laws/Ops.lean ====
section
/-! SUPPORT. What each shared operation can change: one frame for each, and the operations that leave care memory
alone. -/

namespace Sys2Proof.Machine

variable (s : State)

/-! ### News, notices, answers -/

theorem setNews_kept (bits : Byte) : Kept [.news] s (s.setNews bits) := by
  intro p hp
  cases p <;> first | rfl | simp at hp

theorem clearNews_kept (bits : Byte) : Kept [.news] s (s.clearNews bits) := by
  intro p hp
  cases p <;> first | rfl | simp at hp

theorem reply_kept (a : PortAnswer) : Kept [.answer] s (s.reply a) := by
  intro p hp
  cases p <;> first | rfl | simp at hp

theorem silent_kept : Kept [.answer] s s.silent := by
  intro p hp
  cases p <;> first | rfl | simp at hp

theorem serve_kept : Kept [.answer, .free] s s.serve := by
  intro p hp
  cases p <;> first | (simp at hp; done) | simp [Same]

theorem serve_noRead (h : s.NoRead) : s.serve = s := by
  unfold State.serve
  split
  · exact absurd ‹_› (h _ _ _ _)
  · rfl

theorem beginRead_kept (status : PortStatus) (addr length : Nat) :
    Kept [.answer, .free] s (s.beginRead status addr length) := by
  intro p hp
  unfold State.beginRead
  cases p <;> first | (simp at hp; done) | simp [Same]

theorem endFrame_kept : Kept [.answer] s s.endFrame := by
  intro p hp
  cases p <;> first | rfl | simp at hp

theorem setHostPresent_kept (level : Bool) : Kept [.pins] s (s.setHostPresent level) := by
  intro p hp
  cases p <;> first | rfl | simp at hp

/-! ### READ, word by word (R170, R171) -/

theorem readByte_shown (a : Nat) : s.readByte a = s.shownByte a := by
  unfold State.readByte State.shownByte
  cases s.port.careReset
  · simp
  · by_cases h : a < 4
    · simp [h, show a < 0x2000 by omega]
    · simp [h]

@[simp] theorem reply_shownByte (a : PortAnswer) (addr : Nat) : (s.reply a).shownByte addr = s.shownByte addr := rfl

theorem readBytes_shown (addr k : Nat) :
    s.readBytes addr k = (List.range k).map (fun i => s.shownByte (addr + i)) := by
  induction k generalizing addr with
  | zero => rfl
  | succ k ih =>
    rw [State.readBytes, ih, List.range_succ_eq_map, readByte_shown]
    simp [Nat.add_assoc, Nat.add_comm 1]

theorem nextWords_data (n : Nat) (status : PortStatus) (served : List Byte) :
    PortAnswer.nextWords s n (.data status served) = .data status served := by
  induction n with
  | zero => rfl
  | succ n ih => exact ih

/-- What is served of a READ in progress is whole words, in address order, as they are shown at the state. -/
theorem nextWords_servedOn (n : Nat) (status : PortStatus) (served : List Byte) (addr left : Nat) (h : 0 < left) :
    ServedOn s false status served addr left (PortAnswer.nextWords s n (.reading status served addr left)) := by
  induction n generalizing served addr left with
  | zero => exact ⟨0, by omega, by simp, by simp [PortAnswer.nextWords, h.ne]⟩
  | succ n ih =>
    simp only [PortAnswer.nextWords, PortAnswer.nextWord, readAnswer]
    have hw : 0 < wordBytes addr left := by simp only [wordBytes]; omega
    split
    · have e : wordBytes addr left = left := by simp only [wordBytes] at *; omega
      exact ⟨left, le_rfl, .inl rfl, by simp [nextWords_data, e, readBytes_shown]⟩
    · have ha : (addr + wordBytes addr left) % 4 = 0 := by simp only [wordBytes] at *; omega
      obtain ⟨m, hm, hb, e⟩ := ih (served ++ s.readBytes addr (wordBytes addr left)) (addr + wordBytes addr left)
        (left - wordBytes addr left) (by omega)
      refine ⟨wordBytes addr left + m, by omega, ?_, ?_⟩
      · rcases hb with rfl | ⟨rfl, -⟩ | ⟨-, hb⟩
        · left; omega
        · right; right; exact ⟨by omega, ha⟩
        · right; right; exact ⟨by omega, by omega⟩
      · rw [e]
        have hl : (wordBytes addr left + m = left) ↔ m = left - wordBytes addr left := by omega
        simp only [hl, List.append_assoc, readBytes_shown, List.range_add, List.map_append, List.map_map,
          Function.comp_def, Nat.add_assoc, Nat.sub_sub]

/-- A READ that is taken has served its first word at least, and whole words, as they are shown at the state. -/
theorem beginRead_servedOn (status : PortStatus) (addr length : Nat) :
    ∃ a, (s.beginRead status addr length).port.answer = some a ∧ ServedOn s true status [] addr length a := by
  unfold State.beginRead readAnswer
  by_cases h : length = 0
  · exact ⟨.data status [], by simp [h, PortAnswer.nextWord, State.serve], 0, by omega, .inl h.symm, by simp [h]⟩
  have hw : 0 < wordBytes addr length := by simp only [wordBytes]; omega
  simp only [h, if_false, PortAnswer.nextWord, readAnswer, List.nil_append]
  split
  · have e : wordBytes addr length = length := by simp only [wordBytes] at *; omega
    exact ⟨_, rfl, length, le_rfl, .inl rfl, by simp [e, readBytes_shown]⟩
  · have ha : (addr + wordBytes addr length) % 4 = 0 := by simp only [wordBytes] at *; omega
    obtain ⟨m, hm, hb, e⟩ := nextWords_servedOn (s.reply _) s.freeValue status (s.readBytes addr (wordBytes addr length))
      (addr + wordBytes addr length) (length - wordBytes addr length) (by omega)
    refine ⟨_, rfl, wordBytes addr length + m, by omega, ?_, ?_⟩
    · rcases hb with rfl | ⟨rfl, -⟩ | ⟨-, hb⟩
      · left; omega
      · right; right; exact ⟨by omega, ha⟩
      · right; right; exact ⟨by omega, by omega⟩
    · refine Eq.trans ?_ (e.trans ?_)
      · exact rfl
      · have hl : (wordBytes addr length + m = length) ↔ m = length - wordBytes addr length := by omega
        simp only [hl, List.nil_append, readBytes_shown, reply_shownByte, List.range_add, List.map_append, List.map_map,
          Function.comp_def, Nat.add_assoc, Nat.sub_sub]

theorem reach_kept (t : Instant) : Kept [.clock] s (s.reach t) := by
  intro p hp
  cases p <;> first | rfl | simp at hp

theorem popIntake_kept : Kept [.intake] s s.popIntake := by
  intro p hp
  cases p <;> first | rfl | simp at hp

theorem store_kept (a : Nat) (bs : List Byte) : Kept [] s (s.store a bs) := by
  intro p _
  cases p <;> rfl

theorem blockStore_kept (a : Nat) (bs : List Byte) : Kept [] s (s.blockStore a bs) := by
  intro p _
  cases p <;> rfl

theorem setOwner_kept (k o : Nat) : Kept [] s (s.setOwner k o) := store_kept s _ _

theorem accept_kept (k : Nat) : Kept [.acceptance] s (s.accept k) := by
  intro p hp
  cases p <;> first | rfl | simp at hp

theorem setDrop_kept (d : DropMonitor) : Kept [.drop] s (s.setDrop d) := by
  intro p hp
  cases p <;> first | rfl | simp at hp

theorem setBayPins_kept (b : Bay) (q : BayPins) : Kept [.pins] s (s.setBayPins b q) := by
  intro p hp
  cases p <;> first | rfl | simp at hp

theorem setBay_kept (b : Bay) (c : BayContext) : Kept [.bay b] s (s.setBay b c) := by
  intro p hp
  cases p with
  | bay d => exact State.bay_setBay_ne s (fun h => hp (by simp [h])) c
  | _ => rfl

theorem appendNotice_kept (n : Notice) : Kept [.noticeList, .news] s (s.appendNotice n) := by
  intro p hp
  cases p <;> first | rfl | simp at hp

/-- A posting changes the notice list and the news bits, and no byte outside the entry place it takes (R190, R191). -/
theorem post_kept (kind : NoticeKind) (bay : Option Bay) (flags : Nat) (payload : List Byte) :
    Kept [.noticeList, .news] s (s.post kind bay flags payload) := by
  unfold State.post
  dsimp only
  split
  · exact appendNotice_kept s _
  · intro p hp
    cases p <;> first | rfl | simp at hp

theorem noticeBytes_length (n : Notice) : (noticeBytes n).length = 32 := by simp [noticeBytes]

theorem appendNotice_bytesKept (n : Notice) : BytesKept [noticeArea s] s (s.appendNotice n) := by
  intro x hx
  have h := blockStore_bytesKept s (noticePlace s.notices.bottom) (noticeBytes { n with sequence := s.notices.counter })
  rw [noticeBytes_length] at h
  exact h x hx

theorem post_bytesKept (kind : NoticeKind) (bay : Option Bay) (flags : Nat) (payload : List Byte) :
    BytesKept [noticeArea s] s (s.post kind bay flags payload) := by
  unfold State.post
  dsimp only
  split
  · exact appendNotice_bytesKept s _
  · exact (BytesKept.of_memory (s := s) rfl).mono (by simp)

/-- What a posting leaves in the notice unit (R190, R191). -/
theorem post_posted (kind : NoticeKind) (bay : Option Bay) (flags : Nat) (payload : List Byte) :
    Posted s (s.post kind bay flags payload) kind bay flags payload := by
  unfold Posted State.post
  dsimp only
  split <;> rfl

theorem post_news (kind : NoticeKind) (bay : Option Bay) (flags : Nat) (payload : List Byte) :
    (s.post kind bay flags payload).notices.news = s.notices.news ||| s.postNews := by
  unfold State.post State.postNews
  dsimp only
  split <;> rfl

@[simp] theorem post_bay (kind : NoticeKind) (bay : Option Bay) (flags : Nat) (payload : List Byte) (b : Bay) :
    (s.post kind bay flags payload).bay b = s.bay b := post_kept s kind bay flags payload (.bay b) (by simp)

/-- An answer changes the slot, and the news bits (R182). -/
theorem answer_kept (k : Nat) (status : Status) (reason : Reason) (data : List Byte) :
    Kept [.news] s (s.answer k status reason data) := by
  unfold State.answer
  dsimp only
  split
  · intro p _
    cases p <;> rfl
  · intro p hp
    cases p <;> first | rfl | simp at hp

theorem answer_bytesKept (k : Nat) (status : Status) (reason : Reason) (data : List Byte) :
    BytesKept (answerAreas k) s (s.answer k status reason data) := by
  have h : BytesKept (answerAreas k) s ((s.store (slotBase k + 32)
      ([byte (statusCode status), byte (reasonCode reason), 0, 0] ++ padTo 24 data ++ leBytes 4 s.uptime)).setOwner k
      ownerAnswered) := by
    refine BytesKept.trans (t := s.store (slotBase k + 32)
        ([byte (statusCode status), byte (reasonCode reason), 0, 0] ++ padTo 24 data ++ leBytes 4 s.uptime)) ?_ ?_
    · refine (store_bytesKept s _ _).mono ?_
      simp [answerAreas, answerArea]
    · refine (store_bytesKept _ _ _).mono ?_
      simp [answerAreas, ownerArea]
  unfold State.answer
  dsimp only
  split
  · exact h
  · exact h.trans ((BytesKept.of_memory rfl).mono (by simp))

/-- The slot stands answered (R182). -/
theorem answer_answered (k : Nat) (status : Status) (reason : Reason) (data : List Byte) (hk : k < 24) :
    (s.answer k status reason data).Answered k status reason data := by
  have hm : (s.answer k status reason data).port.memory =
      Memory.write (Memory.write s.port.memory (slotBase k + 32)
        ([byte (statusCode status), byte (reasonCode reason), 0, 0] ++ padTo 24 data ++ leBytes 4 s.uptime))
        (slotBase k) (leBytes 4 ownerAnswered) := by
    unfold State.answer
    dsimp only
    split <;> rfl
  have hu : (s.answer k status reason data).uptime = s.uptime := by
    unfold State.answer
    dsimp only
    split <;> rfl
  have hb : slotBase k + 64 ≤ 0x0800 := by simp only [slotBase]; omega
  have hl : ([byte (statusCode status), byte (reasonCode reason), 0, 0] ++ padTo 24 data ++ leBytes 4 s.uptime).length
      = 32 := by simp
  have hlt : s.uptime < 256 ^ 4 := by
    simp only [State.uptime, uptimeOf]
    omega
  have read1 : ∀ i, i < 32 → Memory.read (s.answer k status reason data).port.memory (slotBase k + (32 + i)) =
      ([byte (statusCode status), byte (reasonCode reason), 0, 0] ++ padTo 24 data ++ leBytes 4 s.uptime).getD i 0 := by
    intro i hi
    rw [hm, Memory.read_write_apart _ _ _ _ (by simp; omega), Memory.read_write, if_pos (by omega),
      if_pos (by omega)]
    congr 1
    omega
  have readN : ∀ i n, i + n ≤ 32 → Memory.readBytes (s.answer k status reason data).port.memory
      (slotBase k + (32 + i)) n =
      (([byte (statusCode status), byte (reasonCode reason), 0, 0] ++ padTo 24 data ++ leBytes 4 s.uptime).drop i).take
        n := by
    intro i n hi
    rw [hm, Memory.readBytes_write_apart _ _ _ _ _ (by simp; omega),
      Memory.readBytes_write_part _ _ _ _ _ (by omega) (by omega) (by omega)]
    congr 2
    omega
  refine ⟨?_, ?_, ?_, ?_, ?_⟩
  · simp only [State.slotOwner, State.slotField, Nat.add_zero, hm]
    exact Memory.readNat_write _ _ _ _ (by omega) (by decide)
  · have := read1 0 (by omega)
    simp only [Nat.add_zero] at this
    simp only [State.slotByte, this]
    cases status <;> rfl
  · have := read1 1 (by omega)
    simp only [State.slotByte, this]
    cases reason <;> rfl
  · have := readN 4 24 (by omega)
    rw [show slotBase k + 36 = slotBase k + (32 + 4) by omega, this]
    have hp := padTo_length 24 data
    rw [List.append_assoc, List.drop_append_of_le_length (by simp), List.drop_of_length_le (by simp),
      List.nil_append, List.take_append_of_le_length (by omega), List.take_of_length_le (by omega)]
  · have := readN 28 4 (by omega)
    simp only [State.slotField, Memory.readNat]
    rw [show slotBase k + 60 = slotBase k + (32 + 28) by omega, this, hu]
    have hp := padTo_length 24 data
    have h28 : ([byte (statusCode status), byte (reasonCode reason), 0, 0] ++ padTo 24 data).length = 28 := by
      simp
    rw [List.drop_append_of_le_length (by omega), List.drop_of_length_le (by omega), List.nil_append,
      List.take_of_length_le (by simp), ofLe_leBytes_of_lt hlt]

theorem answer_news (k : Nat) (status : Status) (reason : Reason) (data : List Byte) :
    (s.answer k status reason data).notices.news = s.notices.news ||| s.answerNews k := by
  unfold State.answer State.answerNews
  dsimp only
  split <;> simp

theorem answerAccepted_kept (k acceptance : Nat) (status : Status) (reason : Reason) (data : List Byte) :
    Kept [.news] s (s.answerAccepted k acceptance status reason data) := by
  unfold State.answerAccepted
  split
  · exact answer_kept s k status reason data
  · exact (Kept.refl s).mono (by simp)

theorem answerAccepted_bytesKept (k acceptance : Nat) (status : Status) (reason : Reason) (data : List Byte) :
    BytesKept (answerAreas k) s (s.answerAccepted k acceptance status reason data) := by
  unfold State.answerAccepted
  split
  · exact answer_bytesKept s k status reason data
  · exact (BytesKept.refl s).mono (by simp)

/-! ### Bays and the swap context -/

theorem bayLeft_same (p : PowerUnit) (b : Bay) (c d : BayContext) (h : c.state = .online → d.state = .online) :
    p.bayLeft b c d = p := by
  have : ¬ (c.state = .online ∧ d.state ≠ .online) := fun hn => hn.2 (h hn.1)
  cases p
  simp only [PowerUnit.bayLeft, PowerUnit.mk.injEq, true_and, and_true]
  constructor
  · rw [if_neg]
    tauto
  · rw [if_neg]
    tauto

/-- A change of a bay context changes that bay, the news bit BAY, and the charge allocations of a bay that leaves ONLINE
(R4, R58, R71). -/
theorem putBay_kept (b : Bay) (c : BayContext) : Kept [.bay b, .power, .news] s (s.putBay b c) := by
  intro p hp
  cases p with
  | bay d => exact State.bay_putBay_ne s (fun h => hp (by simp [h])) c
  | power => simp at hp
  | news => simp at hp
  | _ => rfl

/-- A change that does not leave ONLINE leaves the power unit alone. -/
theorem putBay_kept_power (b : Bay) (c : BayContext) (h : (s.bay b).state = .online → c.state = .online) :
    Kept [.bay b, .news] s (s.putBay b c) := by
  intro p hp
  cases p with
  | bay d => exact State.bay_putBay_ne s (fun hd => hp (by simp [hd])) c
  | power =>
    show (s.power.bayLeft b (s.bay b) c).inner = s.power.inner
    rw [bayLeft_same _ _ _ _ h]
  | hibernate => rfl
  | news => simp at hp
  | _ => rfl

theorem putSwap_kept (w : Option SwapContext) : Kept [.swap, .news] s (s.putSwap w) := by
  intro p hp
  cases p <;> first | rfl | simp at hp

theorem drivenClosed_state (c : BayContext) (now : Instant) : (c.drivenClosed now).state = c.state := by
  unfold BayContext.drivenClosed
  split <;> rfl

/-- A drive to close changes its bay's latch, and the news bit BAY (R73). -/
theorem driveClose_kept (b : Bay) : Kept [.bay b, .news] s (s.driveClose b) :=
  putBay_kept_power s b _ (fun h => by rw [drivenClosed_state]; exact h)

@[simp] theorem driveClose_memory (b : Bay) : (s.driveClose b).port.memory = s.port.memory := rfl

/-! ### The pack link -/

theorem arbitrate_kept : Kept [.link] s s.arbitrate := by
  unfold State.arbitrate
  split
  · exact (Kept.refl s).mono (by simp)
  · split
    · intro p hp
      cases p <;> first | rfl | simp at hp
    · intro p hp
      cases p <;> first | rfl | simp at hp

@[simp] theorem arbitrate_memory : s.arbitrate.port.memory = s.port.memory := by
  unfold State.arbitrate
  split
  · rfl
  · split <;> rfl

/-- A job that joins changes the pack link alone (R32, R33). -/
theorem join_kept (b : Bay) (w : Work) : Kept [.link] s (s.join b w) := by
  unfold State.join
  dsimp only
  split
  · refine Kept.trans ?_ (arbitrate_kept _)
    intro p hp
    cases p <;> first | rfl | simp at hp
  · intro p hp
    cases p <;> first | rfl | simp at hp

@[simp] theorem join_memory (b : Bay) (w : Work) : (s.join b w).port.memory = s.port.memory := by
  unfold State.join
  dsimp only
  split
  · rw [arbitrate_memory]
  · rfl

theorem poll_kept (b : Bay) : Kept [.link] s (s.poll b) := by
  unfold State.poll
  split
  · exact (Kept.refl s).mono (by simp)
  · exact join_kept s b .gauge

@[simp] theorem poll_memory (b : Bay) : (s.poll b).port.memory = s.port.memory := by
  unfold State.poll
  split <;> simp

/-- An entry to ONLINE changes the bay, the pack link and the news bit BAY (R3, R20). -/
theorem enterOnline_kept (b : Bay) (c : BayContext) : Kept [.bay b, .news, .link] s (s.enterOnline b c) :=
  ((putBay_kept_power s b _ (fun _ => rfl)).append (poll_kept _ b)).mono (by simp)

@[simp] theorem enterOnline_memory (b : Bay) (c : BayContext) : (s.enterOnline b c).port.memory = s.port.memory := by
  simp [State.enterOnline]

theorem handStamp_kept (b : Bay) (i : StampItem) : Kept [.link] s (s.handStamp b i) := by
  unfold State.handStamp
  split
  · intro p hp
    cases p <;> first | rfl | simp at hp
  · exact join_kept s b _

@[simp] theorem handStamp_memory (b : Bay) (i : StampItem) : (s.handStamp b i).port.memory = s.port.memory := by
  unfold State.handStamp
  split <;> simp

/-! ### The impact store -/

theorem putImpact_kept (u : ImpactStore) : Kept [.impact] s (s.putImpact u) := by
  intro p hp
  cases p <;> first | rfl | simp at hp

@[simp] theorem update_length (u : ImpactStore) (q : Nat) (f : ImpactRecord → ImpactRecord) :
    (u.update q f).places.length = u.places.length := by simp [ImpactStore.update]

@[simp] theorem resolve_length (u : ImpactStore) (q : Nat) (now : Instant) :
    (u.resolve q now).places.length = u.places.length := by
  unfold ImpactStore.resolve
  split <;> simp

/-- A change of the store that keeps its 16 places, and the bytes that it writes: those of the impact store (R158, R167). -/
def StoreChange (s t : State) : Prop :=
  s.impact.places.length = 16 → t.impact.places.length = 16 ∧ BytesKept [impactArea] s t

theorem StoreChange.refl : StoreChange s s := fun h => ⟨h, (BytesKept.refl s).mono (by simp)⟩

theorem StoreChange.trans {s t u : State} (h : StoreChange s t) (h' : StoreChange t u) : StoreChange s u := fun hs =>
  ⟨(h' (h hs).1).1, (h hs).2.trans (h' (h hs).1).2⟩

theorem StoreChange.of_same {s t : State} (hi : t.impact = s.impact) (hm : t.port.memory = s.port.memory) :
    StoreChange s t := fun h => ⟨hi ▸ h, (BytesKept.of_memory hm).mono (by simp)⟩

theorem putImpact_change (u : ImpactStore) (h : u.places.length = s.impact.places.length) :
    StoreChange s (s.putImpact u) := fun hs =>
  ⟨h.trans hs, putImpact_bytesKept s u (h.trans hs).le⟩

theorem amend_kept (q : Nat) (f : ImpactRecord → ImpactRecord) : Kept [.impact] s (s.amend q f) := putImpact_kept s _

theorem amend_change (q : Nat) (f : ImpactRecord → ImpactRecord) : StoreChange s (s.amend q f) :=
  putImpact_change s _ (by simp)

theorem putStamps_kept (u : ImpactStore) (q : Nat) : Kept [.impact, .news] s (s.putStamps u q) := by
  unfold State.putStamps
  split
  · exact ((putImpact_kept s _).append (setNews_kept _ _)).mono (by simp)
  · exact (putImpact_kept s _).mono (by simp)

theorem putStamps_change (u : ImpactStore) (q : Nat) (h : u.places.length = s.impact.places.length) :
    StoreChange s (s.putStamps u q) := by
  unfold State.putStamps
  split
  · exact (putImpact_change s _ (by simp [h])).trans (.of_same rfl rfl)
  · exact putImpact_change s _ h

theorem stampOutcome_kept (b : Bay) (o : StampOutcome) (q : Nat) : Kept [.impact, .news] s (s.stampOutcome b o q) := by
  unfold State.stampOutcome
  split
  · split
    · exact putStamps_kept s _ q
    · exact (Kept.refl s).mono (by simp)
  · exact (Kept.refl s).mono (by simp)

theorem stampOutcome_change (b : Bay) (o : StampOutcome) (q : Nat) : StoreChange s (s.stampOutcome b o q) := by
  unfold State.stampOutcome
  split
  · split
    · exact putStamps_change s _ q (by simp)
    · exact .refl s
  · exact .refl s

/-- Stamp outcomes change the impact store, and the news bit IMPACT (R162). -/
theorem stampOutcomes_kept (b : Bay) (o : StampOutcome) (items : List StampItem) :
    Kept [.impact, .news] s (s.stampOutcomes b o items) := by
  unfold State.stampOutcomes
  induction items generalizing s with
  | nil => exact (Kept.refl s).mono (by simp)
  | cons i is ih => exact (stampOutcome_kept s b o i.sequence).trans (ih _)

theorem stampOutcomes_change (b : Bay) (o : StampOutcome) (items : List StampItem) :
    StoreChange s (s.stampOutcomes b o items) := by
  unfold State.stampOutcomes
  induction items generalizing s with
  | nil => exact .refl s
  | cons i is ih => exact (stampOutcome_change s b o i.sequence).trans (ih _)

theorem joltOutcome_kept (b : Bay) (o : JoltOutcome) : Kept [.impact] s (s.joltOutcome b o) := by
  unfold State.joltOutcome
  split
  · split
    · exact putImpact_kept s _
    · exact (Kept.refl s).mono (by simp)
  · exact (Kept.refl s).mono (by simp)

theorem joltOutcome_change (b : Bay) (o : JoltOutcome) : StoreChange s (s.joltOutcome b o) := by
  unfold State.joltOutcome
  split
  · split
    · exact putImpact_change s _ (by simp)
    · exact .refl s
  · exact .refl s

@[simp] theorem decideStamp_length (q : Nat) (b : Bay) (u : ImpactStore) :
    (s.decideStamp q b u).places.length = u.places.length := by
  unfold State.decideStamp
  split <;> simp

theorem handRecord_kept (r : ImpactRecord) (b : Bay) : Kept [.link] s (s.handRecord r b) := by
  unfold State.handRecord
  split
  · exact handStamp_kept s b _
  · exact (Kept.refl s).mono (by simp)

theorem handRecord_change (r : ImpactRecord) (b : Bay) : StoreChange s (s.handRecord r b) := by
  refine .of_same ((handRecord_kept s r b) .impact (by simp)) ?_
  unfold State.handRecord
  split <;> simp

theorem settleRecord_kept (q : Nat) : Kept [.impact, .link, .news] s (s.settleRecord q) := by
  unfold State.settleRecord
  split
  · split
    · exact (((putStamps_kept s _ q).append (handRecord_kept _ _ .a)).append (handRecord_kept _ _ .b)).mono (by simp)
    · exact (Kept.refl s).mono (by simp)
  · exact (Kept.refl s).mono (by simp)

theorem settleRecord_change (q : Nat) : StoreChange s (s.settleRecord q) := by
  unfold State.settleRecord
  split
  · split
    · exact ((putStamps_change s _ q (by simp)).trans (handRecord_change _ _ .a)).trans (handRecord_change _ _ .b)
    · exact .refl s
  · exact .refl s

/-- The settling end changes the impact store, the pack link, and the news bit IMPACT (R161). -/
theorem settlingEnd_kept (records : List Nat) : Kept [.impact, .link, .news] s (s.settlingEnd records) := by
  unfold State.settlingEnd
  induction records generalizing s with
  | nil => exact (Kept.refl s).mono (by simp)
  | cons q qs ih => exact (settleRecord_kept s q).trans (ih _)

theorem settlingEnd_change (records : List Nat) : StoreChange s (s.settlingEnd records) := by
  unfold State.settlingEnd
  induction records generalizing s with
  | nil => exact .refl s
  | cons q qs ih => exact (settleRecord_change s q).trans (ih _)

/-! ### Jobs that leave -/

/-- A job that leaves without its result fails its records, or answers its slot (R37, R39, R41, R43). -/
theorem dropJob_kept (o : LinkOutcome) (r : Reason) (j : Job) : Kept [.impact, .news] s (s.dropJob o r j) := by
  unfold State.dropJob
  split
  · exact stampOutcomes_kept s _ _ _
  · exact (answerAccepted_kept s _ _ _ _ _).mono (by simp)
  · exact (Kept.refl s).mono (by simp)
  · exact (Kept.refl s).mono (by simp)
  · exact (Kept.refl s).mono (by simp)

theorem dropJobs_kept (o : LinkOutcome) (r : Reason) (js : List Job) :
    Kept [.impact, .news] s (js.foldl (fun s j => s.dropJob o r j) s) := by
  induction js generalizing s with
  | nil => exact (Kept.refl s).mono (by simp)
  | cons j js ih => exact (dropJob_kept s o r j).trans (ih _)

theorem link_kept (l : PackLink) : Kept [.link] s { s with link := l } := by
  intro p hp
  cases p <;> first | rfl | simp at hp

theorem removeJobs_kept (f : Job → Bool) (o : LinkOutcome) (r : Reason) :
    Kept [.link, .impact, .news] s (s.removeJobs f o r) :=
  ((link_kept s _).append (dropJobs_kept _ o r _)).mono (by simp)

/-- A pack reported gone changes the pack link, the impact store, and news (R41). -/
theorem reportGone_kept (b : Bay) : Kept [.link, .impact, .news] s (s.reportGone b) :=
  ((removeJobs_kept s _ _ _).append (arbitrate_kept _)).mono (by simp)

/-! ### The hold set and releases -/

/-- A removal from the hold set changes its entries, and the frozen mark (R97, R104). -/
theorem holdRemove_kept (kind : HoldKind) (owner : HoldOwner) : Kept [.holds, .bright] s (s.holdRemove kind owner) := by
  intro p hp
  cases p <;> first | rfl | simp at hp

/-- A removal of an entry of another kind than BRIGHT_FREEZE leaves the brightness unit alone. -/
theorem holdRemove_kept_bright (kind : HoldKind) (owner : HoldOwner) (h : kind ≠ .brightFreeze) :
    Kept [.holds] s (s.holdRemove kind owner) := by
  intro p hp
  cases p with
  | bright =>
    simp only [Same, State.holdRemove]
    rw [if_neg (fun hn => h hn.1)]
  | holds => simp at hp
  | _ => rfl

theorem postRefused_kept (b : Bay) (serial : BitVec 64) (r : Reason) (granted : Bool) (need best : Nat) :
    Kept [.noticeList, .news] s (s.postRefused b serial r granted need best) := post_kept s _ _ _ _

theorem postExpired_kept (w : SwapContext) (serial : BitVec 64) :
    Kept [.noticeList, .news] s (s.postExpired w serial) := post_kept s _ _ _ _

/-- The report of an end answers a slot and posts notices (R85). -/
theorem reportEnd_kept (w : SwapContext) (serial : BitVec 64) (e : ReleaseEnd) :
    Kept [.noticeList, .news] s (s.reportEnd w serial e) := by
  have h1 : ∀ t : State, Kept [.noticeList, .news] t
      (match e with
        | .aborted .expired => t.postExpired w serial
        | _ => t) := by
    intro t
    split
    · exact postExpired_kept t w serial
    · exact (Kept.refl t).mono (by simp)
  unfold State.reportEnd
  refine Kept.trans ?_ (h1 _)
  split
  · exact (answerAccepted_kept s _ _ _ _ _).mono (by simp)
  · split
    · exact (Kept.refl s).mono (by simp)
    · exact postRefused_kept s _ _ _ _ _ _
    · exact (Kept.refl s).mono (by simp)

/-- The end of a release changes the swap context, its bay's latch, the SWAP entry, notices and news (R85). -/
theorem endRelease_kept (w : SwapContext) (serial : BitVec 64) (e : ReleaseEnd) :
    Kept [.swap, .holds, .bay w.bay, .noticeList, .news] s (s.endRelease w serial e) :=
  ((((putSwap_kept s none).append (holdRemove_kept_bright _ (.latch (otherBay w.bay)) .swap (by simp))).append
    (driveClose_kept _ w.bay)).append (reportEnd_kept _ w serial e)).mono (by simp)

theorem relatchComplete_kept (w : SwapContext) :
    Kept [.swap, .holds, .bay w.bay, .noticeList, .news, .link] s (s.relatchComplete w) :=
  ((enterOnline_kept s w.bay _).append (endRelease_kept _ w _ _)).mono (by simp)

/-- An entry to RELATCHING changes no more than the end of its release (R83, R84). -/
theorem enterRelatching_kept (w : SwapContext) (r : Option AbortReason) :
    Kept [.swap, .holds, .bay w.bay, .noticeList, .news, .link] s (s.enterRelatching w r) := by
  have h : Kept [.swap, .holds, .bay w.bay, .noticeList, .news, .link] s
      ((s.putSwap (some (w.relatching r))).driveClose w.bay) :=
    ((putSwap_kept s _).append (driveClose_kept _ w.bay)).mono (by simp)
  unfold State.enterRelatching
  dsimp only
  split
  · exact h.trans (relatchComplete_kept _ (w.relatching r))
  · exact h.trans (relatchComplete_kept _ (w.relatching r))
  · exact h

/-- What an added hold entry can change (R89, R96, R102, R104). -/
def holdParts : List Part := [.holds, .bright, .swap, .bay .a, .bay .b, .noticeList, .news, .link]

theorem bay_mem_holdParts (b : Bay) : Part.bay b ∈ holdParts := by cases b <;> decide

theorem holdArrival_kept (b : Bay) (owner : HoldOwner) : Kept holdParts s (s.holdArrival b owner) := by
  unfold State.holdArrival
  split
  · split
    · refine (enterRelatching_kept s _ _).mono ?_
      intro p hp
      simp only [List.mem_cons, List.not_mem_nil, or_false] at hp
      rcases hp with rfl | rfl | rfl | rfl | rfl | rfl <;> first | exact bay_mem_holdParts _ | decide
    · exact (Kept.refl s).mono (by simp)
  · exact (Kept.refl s).mono (by simp)

theorem enterForce_kept (kind : HoldKind) (owner : HoldOwner) : Kept holdParts s (s.enterForce kind owner) := by
  unfold State.enterForce
  split
  · rename_i b
    refine Kept.trans ((driveClose_kept s b).mono ?_) (holdArrival_kept _ b owner)
    intro p hp
    simp only [List.mem_cons, List.not_mem_nil, or_false] at hp
    rcases hp with rfl | rfl
    · exact bay_mem_holdParts b
    · decide
  · exact (Kept.refl s).mono (by simp)
  · intro p hp
    cases p <;> first | rfl | (exact absurd (by decide) hp)

theorem holdAppend_kept (kind : HoldKind) (owner : HoldOwner) (expiry : Option Instant) :
    Kept holdParts s (s.holdAppend kind owner expiry) := by
  have h : ∀ l, Kept holdParts s { s with holds := { s.holds with entries := l } } := by
    intro l p hp
    cases p <;> first | rfl | (exact absurd (by decide) hp)
  unfold State.holdAppend
  dsimp only
  split
  · exact h _
  · exact (h _).trans (enterForce_kept _ kind owner)

/-- An added hold entry changes no more than its effects (R96). -/
theorem holdAdd_kept (kind : HoldKind) (owner : HoldOwner) : Kept holdParts s (s.holdAdd kind owner) := by
  unfold State.holdAdd
  split
  · exact (Kept.refl s).mono (by simp)
  · exact holdAppend_kept s kind owner none

theorem recloseFailed_kept (w : SwapContext) (r : CarryResult) :
    Kept [.swap, .holds, .bay w.bay, .noticeList, .news, .link] s (s.recloseFailed w r) := by
  unfold State.recloseFailed
  dsimp only
  have h : Kept [.swap, .holds, .bay w.bay, .noticeList, .news, .link] s
      (s.putBay w.bay { s.bay w.bay with pathClosed := true }) :=
    Kept.mono (putBay_kept_power s w.bay _ (fun h => h)) (by simp)
  split
  · exact h.trans (Kept.mono (putSwap_kept _ _) (by simp))
  · exact h.trans (enterRelatching_kept _ (w.reclosed r) _)

/-- A carrier loss changes the release and what its end changes (R90, R91). -/
theorem carrierLoss_kept : Kept holdParts s s.carrierLoss := by
  unfold State.carrierLoss
  split
  · exact (Kept.refl s).mono (by simp)
  · split
    · exact (Kept.refl s).mono (by simp)
    · split
      · exact (putSwap_kept s _).mono (by decide)
      · refine (recloseFailed_kept s _ _).mono ?_
        intro p hp
        simp only [List.mem_cons, List.not_mem_nil, or_false] at hp
        rcases hp with rfl | rfl | rfl | rfl | rfl | rfl <;> first | exact bay_mem_holdParts _ | decide

theorem lossOf_kept (k : Carrier) : Kept holdParts s (s.lossOf k) := by
  unfold State.lossOf
  split
  · split
    · exact carrierLoss_kept s
    · exact (Kept.refl s).mono (by simp)
  · exact (Kept.refl s).mono (by simp)

end Sys2Proof.Machine
end

