-- ==== Sys2Proof/Laws/Exec.lean ====
section
/-! SUPPORT. The end that every command has. -/

namespace Sys2Proof.Machine

/-- An outcome that the end of a command gives. -/
def Finished (o : Host.Outcome State Fault Refusal) : Prop := ∃ w before after, o = finishWith w before after

theorem finished_finish (before after : State) : Finished (finish before after) := ⟨_, _, _, rfl⟩

theorem finished_finishWith (w : Rewrites) (before after : State) : Finished (finishWith w before after) := ⟨_, _, _, rfl⟩

theorem finished_finishDrop (before after : State) : Finished (finishDrop before after) := ⟨_, _, _, rfl⟩

theorem finished_finishBright (kind : Nat) (before after : State) : Finished (finishBright kind before after) :=
  ⟨_, _, _, rfl⟩

theorem finished_ite {c : Prop} [Decidable c] {o o' : Host.Outcome State Fault Refusal} (h : Finished o)
    (h' : Finished o') : Finished (if c then o else o') := by
  split
  · exact h
  · exact h'

/-- Every command ends by driving the lines and rewriting the changed sections. -/
theorem exec_finished (c : Instr) (s : State) : Finished (exec c s) := by
  cases c with
  | startupEnd => exact finished_ite (finished_finishWith _ _ _) (finished_finish _ _)
  | careResetEnd => exact finished_ite (finished_finishWith _ _ _) (finished_finish _ _)
  | seatingTimerExpiry b =>
    simp only [exec, execSeatingTimerExpiry]
    split <;> exact finished_finish _ _
  | contactHoldExpiry b =>
    simp only [exec, execContactHoldExpiry]
    repeat (first | exact finished_finish _ _ | split)
  | joltTimerExpiry b =>
    simp only [exec, execJoltTimerExpiry]
    repeat (first | exact finished_finish _ _ | split)
  | gaugePoll b =>
    simp only [exec, execGaugePoll]
    split <;> exact finished_finish _ _
  | pressTimerExpiry b =>
    simp only [exec, execPressTimerExpiry]
    split <;> exact finished_finish _ _
  | openConfirmExpiry b =>
    simp only [exec, execOpenConfirmExpiry]
    split <;> exact finished_finish _ _
  | closeConfirmExpiry b =>
    simp only [exec, execCloseConfirmExpiry]
    split <;> exact finished_finish _ _
  | retryTimerExpiry b =>
    simp only [exec, execRetryTimerExpiry]
    split <;> exact finished_finish _ _
  | switchingTimerExpiry =>
    simp only [exec, execSwitchingTimerExpiry]
    repeat (first | exact finished_finish _ _ | split)
  | windowTimerExpiry =>
    simp only [exec, execWindowTimerExpiry]
    repeat (first | exact finished_finish _ _ | split)
  | holdExpiry kind =>
    simp only [exec, execHoldExpiry]
    split <;> exact finished_finish _ _
  | dcDebounceExpiry id =>
    simp only [exec, execDcDebounceExpiry]
    split <;> exact finished_finish _ _
  | accelSample reading =>
    simp only [exec, execAccelSample]
    split
    · exact finished_ite (finished_finishWith _ _ _) (finished_finishDrop _ _)
    · exact finished_finish _ _
  | missingSample =>
    simp only [exec, execMissingSample]
    split <;> first | exact finished_finishDrop _ _ | exact finished_finish _ _
  | sensorLoss =>
    simp only [exec, execSensorLoss]
    repeat (first | exact finished_finishDrop _ _ | exact finished_finish _ _ | split)
  | impactWindowEnd reading =>
    simp only [exec, execImpactWindowEnd]
    repeat (first | exact finished_finishDrop _ _ | exact finished_finish _ _ | split)
  | settleTimerExpiry =>
    simp only [exec, execSettleTimerExpiry]
    split <;> first | exact finished_finishDrop _ _ | exact finished_finish _ _
  | settlingCapExpiry =>
    simp only [exec, execSettlingCapExpiry]
    split <;> first | exact finished_finishDrop _ _ | exact finished_finish _ _
  | guardTailExpiry =>
    simp only [exec, execGuardTailExpiry]
    split <;> first | exact finished_finishDrop _ _ | exact finished_finish _ _
  | startingTimerExpiry =>
    simp only [exec, execStartingTimerExpiry]
    split <;> first | exact finished_finishDrop _ _ | exact finished_finish _ _
  | requestFrameEnd =>
    simp only [exec, execRequestFrameEnd]
    repeat (first | exact finished_finish _ _ | split)
  | answerFrame bytes =>
    simp only [exec, execAnswerFrame]
    split <;> exact finished_finish _ _
  | answerFrameGapEnd =>
    simp only [exec, execAnswerFrameGapEnd]
    split <;> exact finished_finish _ _
  | answerWindowExpiry =>
    simp only [exec, execAnswerWindowExpiry]
    repeat (first | exact finished_finish _ _ | split)
  | resetTimerExpiry =>
    simp only [exec, execResetTimerExpiry]
    split <;> exact finished_finish _ _
  | saveTimerExpiry failed =>
    simp only [exec, execSaveTimerExpiry]
    split <;> exact finished_finish _ _
  | answerFrameBegin =>
    simp only [exec, execAnswerFrameBegin]
    repeat (first | exact finished_finish _ _ | split)
  | _ => exact ⟨_, _, _, rfl⟩

end Sys2Proof.Machine
end

