-- ==== Sys2Proof/WellFormed.lean ====
section
/-! DEFINITION. Which commands can arise: the operand limits that the rules and layouts set. The machine gives every
command an outcome, these too; a command that is not well-formed stands for no event of the hardware. -/

namespace Sys2Proof

/-- The port operations that move a word of this use (09, HEADER WORDS, column "Word operations"; R178). -/
def Via.writesOrSets : Via → Bool
  | .write => true
  | .setBits => true
  | .exchange _ => false
  | .clearBits => false

/-- A slot number is 0 to 23 (R179). -/
def wfSlot (slot : Nat) : Bool := decide (slot < 24)

/-- Well-formed commands.

READ and WRITE carry a 2-byte length (13, PORT FRAMES). An unknown operation byte is none of the five codes (R202).
CARE_CONTROL takes WRITE, EXCHANGE_IF_EQUAL and SET_BITS; NEWS and NEWS_FORCE take WRITE and SET_BITS; NOTICE_TOP takes
WRITE and EXCHANGE_IF_EQUAL; an owner word moves to READY by SET_BITS and to EMPTY by CLEAR_BITS as well as by WRITE and
EXCHANGE_IF_EQUAL (R169, R174, R175). No SOFTWARE entry is of kind STORAGE (R94). -/
def Instr.wf : Instr → Bool
  | .write _ data => decide (data.length < 65536)
  | .unknownOperation op => decide (op.toNat = 0) || decide (5 < op.toNat)
  | .careReset via => match via with
    | .clearBits => false
    | _ => true
  | .newsWrite via _ => via.writesOrSets
  | .newsForceWrite via _ => via.writesOrSets
  | .noticeTopWrite via _ => match via with
    | .write => true
    | .exchange _ => true
    | _ => false
  | .arrival slot via => wfSlot slot && (match via with
    | .clearBits => false
    | _ => true)
  | .ownerWordEmpty slot via => wfSlot slot && (match via with
    | .setBits => false
    | _ => true)
  | .holdExpiry kind => decide (kind ≠ .storage)
  | _ => true

end Sys2Proof
end

