-- ==== Sys2Proof/Tests/Slice0.lean ====
section
/-! SUPPORT. Tests: ill-formed commands that the checks refuse, the worked examples of the manual's tables, small steps, and
for each statement a witness that meets its hypotheses. -/

namespace Sys2Proof.Tests

set_option Elab.async false

open Sys2Proof Sys2Proof.Machine

/-! ### Well-formedness: an ill-formed command for each check, and its well-formed neighbour -/

theorem test_wf_write_length :
    (Instr.write 0x1000 (List.replicate 65536 0)).wf = false ∧ (Instr.write 0x1000 [1]).wf = true := by
  constructor
  · simp only [Instr.wf, List.length_replicate, Nat.lt_irrefl, decide_false]
  · decide

theorem test_wf_unknown_operation :
    (Instr.unknownOperation 5).wf = false ∧ (Instr.unknownOperation 6).wf = true ∧
      (Instr.unknownOperation 0).wf = true := by decide

theorem test_wf_care_reset : (Instr.careReset .clearBits).wf = false ∧ (Instr.careReset .setBits).wf = true := by decide

theorem test_wf_news_write :
    (Instr.newsWrite .clearBits 1).wf = false ∧ (Instr.newsWrite (.exchange 0) 1).wf = false ∧
      (Instr.newsWrite .write 1).wf = true := by decide

theorem test_wf_news_force_write :
    (Instr.newsForceWrite .clearBits 1).wf = false ∧ (Instr.newsForceWrite .setBits 1).wf = true := by decide

theorem test_wf_notice_top_write :
    (Instr.noticeTopWrite .setBits 1).wf = false ∧ (Instr.noticeTopWrite (.exchange 0) 1).wf = true := by decide

theorem test_wf_arrival :
    (Instr.arrival 24 .write).wf = false ∧ (Instr.arrival 23 .clearBits).wf = false ∧
      (Instr.arrival 23 .setBits).wf = true := by decide

theorem test_wf_owner_word_empty :
    (Instr.ownerWordEmpty 24 .write).wf = false ∧ (Instr.ownerWordEmpty 0 .setBits).wf = false ∧
      (Instr.ownerWordEmpty 0 .clearBits).wf = true := by decide

theorem test_wf_hold_expiry :
    (Instr.holdExpiry .storage).wf = false ∧ (Instr.holdExpiry (.latch .a)).wf = true := by decide

/-- No row of the table of commands has bits, so no word spells a command. -/
theorem test_decode_no_bits : decodeTableWord 0 0 = none ∧ decodeTableWord 16 0x31 = none := by decide

/-! ### The manual's worked examples -/

/-- The table of R112. -/
theorem test_effective_ambient :
    effectiveAmbient 95000 100000 = 95000 ∧ effectiveAmbient 6000 100000 = 25000 ∧ effectiveAmbient 300 1203 = 300 ∧
      effectiveAmbient 0 3 = 0 := by decide

/-- The table of R113, and the falls below it. -/
theorem test_filter :
    filterStep 32 3 = 40 ∧ filterStep 40 3 = 44 ∧ filterStep 47 3 = 48 ∧ filterStep 48 2 = 47 ∧
      filterStep 1520000 0 = 1425000 ∧ filterStep 1425000 0 = 1425000 - 89063 := by decide

/-- The tables of R114, and its falling segment. -/
theorem test_curve :
    curveLuminance defaultCurve 0 = 20 ∧ curveLuminance defaultCurve 25 = 50 ∧ curveLuminance defaultCurve 3200 = 397 ∧
      curveLuminance defaultCurve 49100 = 1245 ∧ curveLuminance defaultCurve 100000 = 1400 ∧
      curveLuminance [⟨1000, 900⟩, ⟨5000, 300⟩] 2001 = 750 ∧ curveLuminance [⟨1000, 900⟩, ⟨5000, 300⟩] 1001 = 900 := by
  decide

/-- The table of R115. -/
theorem test_mode_luminance :
    modeLuminance .auto 1245 10 0 = 1369 ∧ modeLuminance .auto 1360 10 0 = 1400 ∧ modeLuminance .auto 20 (-50) 0 = 20 ∧
      modeLuminance .auto 397 (-33) 0 = 265 ∧ modeLuminance .night 0 0 650 = 40 ∧ modeLuminance .night 0 0 25 = 25 := by
  decide

/-- The tables of R116 and R117. -/
theorem test_limits :
    thermalLimit (-40) = 1400 ∧ thermalLimit 60 = 1400 ∧ thermalLimit 61 = 1360 ∧ thermalLimit 84 = 440 ∧
      thermalLimit 85 = 400 ∧ powerLimit 440 = 20 ∧ powerLimit 3000 = 385 ∧ powerLimit 4795 = 642 ∧
      powerLimit 10100 = 1400 := by decide

/-- The tables of R118 and R119, and the range of the duty (R120). -/
theorem test_goal_slew_duty :
    limiterOf 1369 1080 385 = .power ∧ limiterOf 400 400 1400 = .curve ∧ limiterOf 1400 400 400 = .thermal ∧
      slew 380 385 = 385 ∧ slew 385 1080 = 445 ∧ slew 1080 1040 = 1060 ∧ slew 650 40 = 630 ∧ dutyOf 20 = 59 ∧
      dutyOf 1400 = 4095 := by decide

/-- The tables of R135, with the default thresholds. -/
theorem test_samples :
    defaultThresholds.isLow (accelSquared ⟨40, -120, 90⟩) = true ∧
      defaultThresholds.isHigh (accelSquared ⟨2100, 1500, 1600⟩) = true ∧
      defaultThresholds.isStrike (accelSquared ⟨2100, 1500, 1600⟩) = false ∧
      defaultThresholds.isStrike (accelSquared ⟨-9000, 4000, 6000⟩) = true ∧
      accelSquared (accelClamped ⟨18200, 900, -300⟩) = 256900000 ∧ accelClipped (accelClamped ⟨18200, 900, -300⟩) = true := by
  decide

/-- The table of R137. -/
theorem test_fall_height :
    fallHeight 64 = 31 ∧ fallHeight 256 = 502 ∧ fallHeight 400 = 1226 ∧ fallHeight 800 = 4903 ∧ fallHeight 2047 = 32101 := by
  decide

/-- The table of R138. -/
theorem test_peak_and_axis :
    isqrt 133000000 = 11532 ∧ isqrt 51000000 = 7141 ∧ isqrt 46340000 = 6807 ∧ isqrt 261000000 = 16155 ∧
      dominantAxis ⟨-9000, 4000, 6000⟩ = .xNeg ∧ dominantAxis ⟨5000, -5000, 1000⟩ = .xPos ∧
      dominantAxis ⟨300, -2000, -6500⟩ = .zNeg := by decide +kernel

/-- The bounds of R139. -/
theorem test_severity :
    severityOf 7999 false = .minor ∧ severityOf 8000 false = .major ∧ severityOf 16000 false = .severe ∧
      severityOf 9000 true = .severe := by decide

/-- The table of R54. -/
theorem test_allowance :
    allowanceOf 90000 17050 = 10100 ∧ allowanceOf 12000 8000 = 3000 ∧ allowanceOf 12000 6205 = 4795 ∧
      allowanceOf 12000 11800 = 440 ∧ allowanceOf 0 9000 = 440 := by decide

/-- A request frame for region 0 of bay A: the three bytes and a CRC that leaves no remainder (R30; 13). -/
theorem test_crc : crc8 [0x01] = 0x97 ∧ crc8 (frame (regionReadBytes .a 0)) = 0 := by
  decide +kernel

/-! ### States of the tests -/

/-- The block after start-up: nothing seated, nothing asked, the port open but the host absent. -/
def idle : State :=
  { State.reset with
    port := { State.reset.port with startUp := false }
    settings := { State.reset.settings with state := .idle, load := none } }

/-- `idle` with the host present. -/
def present : State := { idle with pins := { idle.pins with hostPresent := true } }

/-- Care memory with a slot's owner word, kind and parameters. -/
def slotMemory (m : List Host.Cell) (k owner kind : Nat) (params : List Byte) : List Host.Cell :=
  Memory.write m (slotBase k) (leBytes 4 owner ++ [byte kind, 0, 0, 0] ++ params)

/-- A state with a slot READY at the head of the intake list. -/
def ask (s : State) (k kind : Nat) (params : List Byte) : State :=
  { s with port := { s.port with memory := slotMemory s.port.memory k ownerReady kind params, intake := [k] } }

/-- A state with a slot in another owner state. -/
def withSlot (s : State) (k owner kind : Nat) (params : List Byte) : State :=
  { s with port := { s.port with memory := slotMemory s.port.memory k owner kind params } }

/-- A pack: 98000 mWh, 45000 mW, region 3 present. -/
def pack : Descriptor :=
  { regionCount := 4, chemistry := 1, series := 4, serial := 7, nominal := 14400, design := 98000, maxDischarge := 45000
    maxCharge := 20000, chargeVoltage := 16800, cycles := 3, health := 99, shockCount := 0, lastSeverity := 0
    lastSequence := 0, marks := 0x0F }

/-- Its gauge values. -/
def gauge : Gauge :=
  { voltage := 15000, current := -100, remaining := 41250, full := 98000, temperature := 251, flags := 0, charge := 42 }

/-- An ONLINE bay. -/
def online : BayContext :=
  { BayContext.powerOn with
    state := .online, pathClosed := true, descriptor := some pack, gauge := some gauge, pollDue := some 4000 }

/-- Both bays ONLINE. -/
def packs : State := { idle with bayA := online, bayB := { online with descriptor := some { pack with serial := 8 } } }

/-- `packs` with the adapter present. -/
def docked : State := { packs with power := { packs.power with dc := some .c65 } }

/-- A release of bay A in a phase. -/
def swapping (phase : Phase) (carrier : Carrier) (requester : Requester) : SwapContext :=
  { bay := .a, requester := requester, carrier := carrier, phase := phase
    switchingTimer := if phase = .switching then some 80 else none
    windowTimer := if phase = .waiting then some 120000 else none
    need := 1440, best := 45000, cancelRequested := false
    abortReason := if phase = .relatching then some .latchFault else none, pathReclosed := false }

/-- A state with bay A RELEASING, its latch in a state. -/
def releasing (w : SwapContext) (latch : LatchState) (timer : Option Instant) : State :=
  { packs with
    swap := some w
    bayA := { online with state := .releasing, pathClosed := false, pollDue := none, latch := latch, latchTimer := timer }
    holds := { packs.holds with entries := [{ kind := .latch .b, owner := .swap, expiry := none, created := 0 }] } }

/-- A bay context in a state, with nothing else changed. -/
def bayIn (state : BayState) : BayContext := { BayContext.powerOn with state := state }

/-- The link with a transaction in flight. -/
def wired (s : State) (j : Job) (attempt : Nat) (phase : WirePhase) : State :=
  { s with link := { s.link with
    state := .busy
    inFlight := some { startTransaction 0 j (s.bay j.bay) with attempt := attempt, phase := phase } } }

/-- A GAUGE job of bay A. -/
def gaugeJob : Job := { bay := .a, work := .gauge, queuedAt := 0, order := 0 }

/-- The monitor sampling in a state. -/
def sampling (state : MonitorState) : State :=
  { idle with drop := { idle.drop with state := state, starting := none, sampleDue := some 45 } }

/-- The four FALL entries stand. -/
def guarded (s : State) : State :=
  { s with
    holds := { entries := fallEntries s, storageGuard := false }
    bright := { s.bright with frozen := true } }

/-- An open record. -/
def record : ImpactRecord :=
  { sequence := 1, uptime := 0, kind := .drop, n := 64, height := 31, peakM := 51000000, peak := 7141, axis := .xPos
    severity := .minor, clipped := false, bounces := 0, platform := .off, bayStateA := .vacant, bayStateB := .vacant
    joltA := .none, joltB := .none, stampA := .none, stampB := .none, sensorLost := false, isOpen := true, closedUptime := 0
    closedAt := 0, pinned := false }

/-- A state with records in the first places of the store. -/
def storing (s : State) (records : List ImpactRecord) : State :=
  { s with impact := { places := records.map some ++ List.replicate (16 - records.length) none
                       nextSequence := records.length + 1 } }

/-- A notice list of 31 entries from index 0 on, and a deferred notice. -/
def fullNotices : NoticeUnit :=
  { idle.notices with
    bottom := 31, counter := 32
    entries := (List.range 31).map (fun i => { entryOf 0 0 .packSeated (some .a) 0 [] with sequence := i + 1 })
    deferred := [entryOf 0 0 .impact none 0 [], entryOf 0 0 .packSeated (some .b) 0 []] }

theorem releaseAgrees_none (s : State) (h : s.swap = none)
    (hs : s.bayA.state ≠ .releasing ∧ s.bayB.state ≠ .releasing)
    (hp : (s.bayA.pathClosed = true → s.bayA.state = .online) ∧ (s.bayB.pathClosed = true → s.bayB.state = .online))
    (ht : s.TimerRule .a ∧ s.TimerRule .b) : s.ReleaseAgrees := by
  intro b
  cases b
  · exact ⟨fun c => .inl (hp.1 c), ⟨fun c => absurd c hs.1, by rintro ⟨w, hw, -⟩; rw [h] at hw; cases hw⟩, ht.1⟩
  · exact ⟨fun c => .inl (hp.2 c), ⟨fun c => absurd c hs.2, by rintro ⟨w, hw, -⟩; rw [h] at hw; cases hw⟩, ht.2⟩

theorem releaseAgrees_releasing (w : SwapContext) (latch : LatchState) (timer : Option Instant) (h : w.bay = .a) :
    (releasing w latch timer).ReleaseAgrees := by
  intro b
  cases b
  · exact ⟨fun c => (nomatch c), ⟨fun _ => ⟨w, rfl, h⟩, fun _ => rfl⟩, nofun, nofun⟩
  · refine ⟨fun _ => .inl rfl, ⟨fun c => (nomatch c), ?_⟩, nofun, nofun⟩
    rintro ⟨v, hv, hb⟩
    cases hv
    rw [h] at hb
    cases hb

theorem slotsOk_nil {l : PackLink} (h : l.jobs = []) : l.SlotsOk := by
  intro j hj
  rw [h] at hj
  cases hj

theorem wireEnd_good {x : Transaction} {bytes data : List Byte} (h : x.phase = .answering)
    (hg : x.job.work.answerGood bytes = true) (hd : x.job.work.answerData bytes = data) :
    WireEnd x (.answerFrame bytes) .good (some data) := hd ▸ .good bytes h hg

/-! ### Small steps, from the manual's examples -/

/-- The example of a budget step on the adapter (03). -/
theorem test_budget_example :
    let p : PowerUnit :=
      { docked.power with
        mode := .dc, bridgeEnergy := 17500000, chargeBridge := 1500, episode := none
        samples := [21400, 21600, 21500, 21300, 21800, 21700, 21500, 21400, 21600, 21700] }
    let b : BayContext :=
      { online with chargeLimit := 90, gauge := some { gauge with charge := 80, temperature := 310 }
                    descriptor := some { pack with maxCharge := 25000 } }
    let q := p.stages { docked.bright with display := true, c := 600 } online b
    (q.pSys, q.pBl, q.lBase, q.supply, q.allowance, q.bridgeEnergy, q.headroom) =
        (21550, 4500, 17050, 65000, 10100, 17500150, 42450) ∧
      (q.chargeBridge, q.chargeA, q.chargeB) = (1500, 20000, 20950) := by decide +kernel

/-- The debits and credits of R59. -/
theorem test_bridge_gauge :
    bridgeAfter { idle.power with pSys := 9200, bridgeEnergy := 10000 } .bridge .bridge = 9080 ∧
      bridgeAfter { idle.power with pSys := 9205, bridgeEnergy := 10000 } .bridge .bridge = 9079 ∧
      bridgeAfter { docked.power with pSys := 9200, bridgeEnergy := 10000, chargeBridge := 1500 } .bridge .dc = 9230 := by
  decide +kernel

/-- Cases a, c, d and e of R66. -/
theorem test_carry_check :
    let load := fun (s : State) (l e : Nat) => { s with power := { s.power with lBase := l, bridgeEnergy := e } }
    let alone := fun (s : State) => { s with bayB := BayContext.powerOn }
    (load packs 17050 17500000).carryCheck .a = ⟨some (.bay .b), 18490, 45000⟩ ∧
      (load (alone packs) 6205 344025).carryCheck .a = ⟨some .bridge, 7645, 7645⟩ ∧
      (load (alone packs) 6205 344024).carryCheck .a = ⟨none, 7645, 7644⟩ ∧
      (load docked 17050 0).carryCheck .a = ⟨some .dc, 18490, 65000⟩ := by decide +kernel

/-- A debounce that chatters: removed at 30 ms, restarted at 40 ms (R47). -/
theorem test_debounce :
    let p := idle.power.debounced true 0
    p.debounce = some { timer := 200, level := true } ∧ (p.debounced false 120).debounce = none ∧
      ((p.debounced false 120).debounced true 160).debounce = some { timer := 360, level := true } := by decide

/-- A press held for seconds is one press: once taken, it must be released (R77). -/
theorem test_press :
    (BayContext.powerOn.button true 0).pressTimer = some 200 ∧
      (({ BayContext.powerOn with releaseWait := true }).button true 0).pressTimer = none ∧
      (({ BayContext.powerOn with releaseWait := true }).button false 0).releaseWait = false := by decide

/-- A retry sends the same request again, on attempt 2 (R30). -/
theorem test_retry :
    ((startTransaction 0 gaugeJob online).retry 40).attempt = 2 ∧
      ((startTransaction 0 gaugeJob online).retry 40).request = frame [0x32, 0] := by decide +kernel

/-- The arbiter: IDENT before STAMP before GAUGE, then the older, then bay A's IDENT (R33). -/
theorem test_arbiter :
    soonest [gaugeJob, { gaugeJob with work := .identSerial, bay := .b, order := 1 },
        { gaugeJob with work := .identFull [], order := 2 }] =
      some { gaugeJob with work := .identFull [], order := 2 } := by decide

/-- Two IDENT jobs do not interleave: bay B's, begun in the same millisecond, goes on before bay A's begins (R33). -/
theorem test_ident_goes_on :
    soonest [{ gaugeJob with work := .identFull [], order := 2 },
        { gaugeJob with work := .identFull [[]], bay := .b, order := 1 }] =
      some { gaugeJob with work := .identFull [[]], bay := .b, order := 1 } := by decide

/-- Each add and each removal of the four FALL entries, and the change of STORAGE_GUARD, rewrites the section (R96, R97,
R105, R143). -/
theorem test_hold_rewrites :
    holdRewrites false idle.holds (guarded idle).holds = 4 ∧ holdRewrites false (guarded idle).holds idle.holds = 4 ∧
      holdRewrites false idle.holds { (guarded idle).holds with storageGuard := true } = 5 ∧
      holdRewrites false idle.holds idle.holds = 0 := by decide

/-- A save that stops at region 2 has written region 1 and not region 3 (R200). -/
theorem test_stopped_save :
    let image := { StoredSettings.blank with manual := 500, freeFall := 400, window := 60 }
    let copy := { StoredSettings.blank with signature := 0xA7C1 }.stoppedAt image 2 []
    copy.signature = 0 ∧ copy.manual = 500 ∧ copy.freeFall = 0 ∧ copy.window = StoredSettings.blank.window := by decide

/-- A deferred notice of a kind takes the place of the one before it, with its merged count risen (R191). -/
theorem test_defer :
    (deferInto (entryOf 0 5 .impact none 0 [9]) fullNotices.deferred).map (fun n => (n.kind, n.merged, n.uptime)) =
      [(.impact, 2, 5), (.packSeated, 1, 0)] := by decide

/-- A CONTACT_ARRIVAL of an empty bay starts 200 ms of SEATING (R5). -/
theorem test_seating :
    ((idle.setContact .a true).bayPins .a).contact = true ∧ (BayContext.powerOn.seated 0).seatingTimer = some 800 := by
  decide

/-! ### Witnesses: states and operands that meet the hypotheses of each statement, clause by clause -/

/-- `idle` with a command waiting. -/
def queued : State := { idle with pending := [.contactArrival .a] }

/-- `present` with a READ in progress: 2 of its 6 bytes from 0x1002 on are served. -/
def midRead : State := present.reply (.reading .ok [9, 9] 0x1004 4)

theorem midRead_agrees : midRead.ReadAgrees ∧ ¬ midRead.NoRead := by
  refine ⟨fun status served addr left h => ?_, fun h => h .ok [9, 9] 0x1004 4 rfl⟩
  cases h
  exact ⟨rfl, by decide⟩

theorem idle_noRead : idle.NoRead := nofun

theorem witness_StepRunsFrontCommand :
    queued.pending = .contactArrival .a :: [] ∧ (idle.pending = [] ∧ idle.NoRead) ∧
      midRead.pending = [] ∧ 0 < 4 ∧ midRead.port.answer = some (.reading .ok [9, 9] 0x1004 4) :=
  ⟨rfl, ⟨rfl, idle_noRead⟩, rfl, by decide, rfl⟩

/-- A READ of 6 bytes that begins inside a word: a write of the part between its two words shows in the second (R170). -/
theorem test_read_words :
    (((readAnswer .ok [] 0x1002 6).nextWord (present.store 0x1000 [1, 1, 1, 1, 1, 1, 1, 1])).nextWord
      (present.store 0x1000 [2, 2, 2, 2, 2, 2, 2, 2])) = .data .ok [1, 1, 2, 2, 2, 2] := by decide

theorem witness_StepKeepsLines : queued.LinesHold ∧ ∃ t, step queued = .next t := by
  refine ⟨?_, _, rfl⟩
  unfold State.LinesHold
  decide

theorem witness_StepKeepsMemoryForm :
    Memory.wf (ask queued 3 10 [200]).port.memory = true ∧ ∃ t, step (ask queued 3 10 [200]) = .next t :=
  ⟨by decide, _, rfl⟩

theorem witness_StepKeepsNoticesOrdered :
    ({ queued with notices := fullNotices } : State).notices.Ordered ∧
      ∃ t, step { queued with notices := fullNotices } = .next t := by
  refine ⟨?_, _, rfl⟩
  unfold NoticeUnit.Ordered Sequenced
  decide +kernel

theorem witness_StepKeepsReleaseAgreement :
    ({ releasing (swapping .waiting .dc .button) .opened none with pending := [.contactLoss .a] } : State).ReleaseAgrees ∧
      (∃ t, step { releasing (swapping .waiting .dc .button) .opened none with pending := [.contactLoss .a] } = .next t) ∧
      queued.EpisodeAgrees ∧ queued.power.episode.isSome = true ∧ ∃ t, step queued = .next t :=
  ⟨releaseAgrees_releasing (swapping .waiting .dc .button) .opened none rfl, ⟨_, rfl⟩, fun _ => rfl, rfl, _, rfl⟩

theorem witness_StepKeepsLinkAgreement :
    (wired { packs with pending := [.requestFrameEnd] } gaugeJob 1 (.sending 4)).link.Agrees ∧
      ∃ t, step (wired { packs with pending := [.requestFrameEnd] } gaugeJob 1 (.sending 4)) = .next t :=
  ⟨⟨rfl, rfl⟩, _, rfl⟩

/-- Slots 3 and 23 stand READY, in the order of their arrival, and slot 0 is ANSWERED. -/
def threeSlots : State :=
  { withSlot (ask (ask queued 3 10 []) 23 9 []) 0 ownerAnswered 1 [] with
    port := { (withSlot (ask (ask queued 3 10 []) 23 9 []) 0 ownerAnswered 1 []).port with intake := [23, 3] } }

theorem threeSlots_owners :
    ∀ k, k < 24 → (threeSlots.slotOwner k = ownerReady ↔ k = 3 ∨ k = 23) := by decide +kernel

theorem witness_StepKeepsIntake : threeSlots.IntakeAgrees ∧ ∃ t, step threeSlots = .next t := by
  refine ⟨⟨by decide, fun k => ?_⟩, _, rfl⟩
  constructor
  · intro h
    have h : k = 23 ∨ k = 3 := by simpa [threeSlots] using h
    have : k < 24 := by omega
    exact ⟨this, (threeSlots_owners k this).mpr (by omega)⟩
  · rintro ⟨h, ho⟩
    have := (threeSlots_owners k h).mp ho
    have : k = 23 ∨ k = 3 := by omega
    simpa [threeSlots] using this

/-- `queued` with its live page written. -/
def shown : State := State.refresh queued { all := true } queued

theorem slotsNamed_idle (s : State) (hi : s.port.intake = []) (hj : s.link.jobs = []) (hr : s.link.resetSlot = none)
    (hs : s.settings.save = none) (hd : ∀ g, s.drop.starting = some g → g.slot = none) (hw : s.swap = none) :
    s.SlotsNamed := by
  unfold State.SlotsNamed
  rw [hi, hj, hr, hs, hw]
  refine ⟨nofun, nofun, nofun, nofun, fun g k n hg hk => ?_, nofun⟩
  rw [hd g hg] at hk
  cases hk

theorem witness_StepKeepsLivePage :
    (shown.PageShows ∧ shown.MonitorShows ∧ shown.PlacesShow ∧ shown.port.held = false ∧ ∃ t, step shown = .next t) ∧
      ({ State.reset with pending := [.startupEnd] } : State).MonitorShows ∧ State.reset.port.held = true ∧
      ∃ t, step { State.reset with pending := [.startupEnd] } = .next t ∧ t.port.held = false := by
  refine ⟨⟨?_, ⟨nofun, nofun, fun _ => rfl, nofun, fun _ => ⟨0, 0, none, none, 0, ?_⟩⟩,
    ⟨by decide, slotsNamed_idle _ rfl rfl rfl rfl (by rintro _ ⟨⟩; rfl) rfl, by decide, ?_⟩, by decide +kernel, _, rfl⟩,
    ⟨nofun, nofun, fun _ => rfl, nofun, nofun⟩, rfl, _, rfl, rfl⟩
  · unfold State.PageShows Shows
    decide +kernel
  · unfold Shows
    decide +kernel
  · decide +kernel

theorem witness_StepKeepsBrightBound :
    (State.BrightBound { queued with
      bright := { queued.bright with display := true, c := 385, duty := 1126 }
      power := { queued.power with allowance := 3000 } }) ∧ queued.BrightBound ∧ ∃ t, step queued = .next t := by
  refine ⟨?_, ?_, _, rfl⟩ <;> unfold State.BrightBound <;> decide

theorem witness_StepKeepsShape : (guarded queued).Shaped ∧ ∃ t, step (guarded queued) = .next t := by
  refine ⟨?_, _, rfl⟩
  unfold State.Shaped
  decide +kernel

theorem witness_StepKeepsShape_read : midRead.ReadAgrees ∧ ∃ t, step midRead = .next t := ⟨midRead_agrees.1, _, rfl⟩

theorem witness_HostPresentMovesAttention :
    (idle.LinesHold ∧ idle.NoRead) ∧ midRead.LinesHold ∧ ¬ midRead.NoRead := by
  refine ⟨⟨?_, idle_noRead⟩, ?_, midRead_agrees.2⟩ <;> unfold State.LinesHold <;> decide

theorem witness_ReadAnswers :
    present.LinesHold ∧ present.pins.hostPresent = true ∧ present.notices.Ordered ∧ present.port.careReset = false ∧
      (0x1FFE : Addr).toNat < 0x2000 ∧ (4 : BitVec 16).toNat ≤ 256 := by
  unfold State.LinesHold NoticeUnit.Ordered Sequenced
  decide

theorem witness_WriteStoresIntoBuffers :
    present.LinesHold ∧ present.PortOpen ∧ (0x1000 : Addr).toNat = 0x1000 ∧ (0x1FFF : Addr).toNat < 0x2000 ∧
      1 ≤ ([7] : List Byte).length ∧ (List.replicate 256 (7 : Byte)).length ≤ 256 ∧ present.slotOwner 23 = ownerEmpty ∧
      (slotBase 23 + 4 ≤ (0x07C4 : Addr).toNat ∧ (0x07C4 : Addr).toNat + ([7] : List Byte).length ≤ slotBase 23 + 32) ∧
      (0x07C0 : Addr).toNat = slotBase 23 ∧ 4 ≤ (leBytes 4 ownerReady ++ [10, 0]).length ∧
      (leBytes 4 ownerReady ++ [10, 0]).length ≤ 64 ∧
      (leBytes 4 ownerReady ++ [10, 0]).take 4 = leBytes 4 ownerReady := by
  unfold State.LinesHold State.PortOpen
  decide +kernel

theorem witness_WriteTurnedAway :
    (present.LinesHold ∧ present.pins.hostPresent = true ∧ present.port.held = false ∧ State.reset.port.held = true ∧
        0x2000 ≤ (0x2000 : Addr).toNat) ∧
      (present.Forbids 0x0000 ∧ present.Forbids 0x0003 ∧ present.Forbids 0x0018 ∧ present.Forbids 0x01FF) ∧
      present.Forbids 0x0800 ∧ present.Forbids 0x0FFF ∧ (ask present 23 1 []).Forbids (0x0200 + 64 * 23 + 31) := by
  refine ⟨?_, ?_, ?_⟩ <;> (try unfold State.LinesHold) <;> (try unfold State.Forbids) <;> decide +kernel

theorem witness_WordOperationsOnBuffers :
    present.LinesHold ∧ present.PortOpen ∧ 0x1000 ≤ (0x1000 : Addr).toNat ∧ (0x1FFC : Addr).toNat < 0x2000 ∧
      (0x1FFC : Addr).toNat % 4 = 0 ∧ slotBase 23 + 4 ≤ (0x07C4 : Addr).toNat ∧ (0x07DC : Addr).toNat < slotBase 23 + 32 ∧
      (0x07DC : Addr).toNat % 4 = 0 ∧ present.slotOwner 23 = ownerEmpty := by
  unfold State.LinesHold State.PortOpen
  decide

/-- The block right after reset, with the host present. -/
def loadingHost : State := { State.reset with pins := { State.reset.pins with hostPresent := true } }

theorem witness_WordOperationsTurnedAway :
    (loadingHost.LinesHold ∧ loadingHost.pins.hostPresent = true ∧ loadingHost.port.held = true) ∧
      present.LinesHold ∧ present.PortOpen ∧ present.port.held = false ∧
      (Instr.setBits 0x2000 1 = .exchangeIfEqual 0x2000 1 0 ∨ Instr.setBits 0x2000 1 = .setBits 0x2000 1 ∨
        Instr.setBits 0x2000 1 = .clearBits 0x2000 1) ∧
      0x2000 ≤ (0x2000 : Addr).toNat ∧ (0x1FFE : Addr).toNat < 0x2000 ∧ (0x1FFE : Addr).toNat % 4 ≠ 0 ∧
      ((Instr.exchangeIfEqual 0x08 1 0 = .exchangeIfEqual 0x08 1 0 ∧ ((0x08 : Addr) = 0x08 ∨ (0x08 : Addr) = 0x10)) ∧
        (Instr.setBits 0x14 1 = .setBits 0x14 1 ∧ (0x14 : Addr) = 0x14) ∧
        (Instr.clearBits 0x14 1 = .clearBits 0x14 1 ∧ ((0x14 : Addr) = 0x08 ∨ (0x14 : Addr) = 0x10 ∨ (0x14 : Addr) = 0x14))) := by
  unfold State.LinesHold State.PortOpen
  decide

theorem witness_UnknownOperationRefused :
    present.LinesHold ∧ present.pins.hostPresent = true ∧ (0 : Byte).toNat = 0 ∧ 5 < (6 : Byte).toNat ∧
      present.port.held = false ∧
      ({ present with port := { present.port with careReset := true } } : State).port.held = true := by
  unfold State.LinesHold
  decide

theorem witness_IgnoredFrames :
    idle.LinesHold ∧ idle.pins.hostPresent = false ∧ IsFrame (.read 0 4) ∧ IsFrame (.arrival 23 .write) := by
  refine ⟨?_, rfl, .read 0 4, .arrival 23 .write (by decide)⟩
  unfold State.LinesHold
  decide

theorem witness_NewsWordsWritten : present.LinesHold ∧ present.PortOpen ∧ (Via.setBits = .write ∨ Via.setBits = .setBits) := by
  unfold State.LinesHold State.PortOpen
  decide

theorem witness_NoticeTopWritten :
    let s : State := { present with notices := fullNotices }
    s.LinesHold ∧ s.PortOpen ∧ s.notices.Ordered ∧ (Via.exchange 0 = .write ∨ Via.exchange 0 = .exchange (BitVec.ofNat 32 s.notices.top)) ∧
      ((31 : Word).toNat < 32 ∧ ((31 : Word).toNat + 32 - s.notices.top) % 32 ≤ s.notices.listed) ∧
      ((0 : Word).toNat < 32 ∧ ((0 : Word).toNat + 32 - s.notices.top) % 32 ≤ s.notices.listed) ∧
      ¬ ((32 : Word).toNat < 32 ∧ ((32 : Word).toNat + 32 - s.notices.top) % 32 ≤ s.notices.listed) ∧
      ¬ ((1 : Word).toNat < 32 ∧ ((1 : Word).toNat + 32 - present.notices.top) % 32 ≤ present.notices.listed) := by
  unfold State.LinesHold State.PortOpen NoticeUnit.Ordered Sequenced
  decide +kernel

theorem witness_OwnerWordMoves :
    present.LinesHold ∧ present.PortOpen ∧ 23 < 24 ∧ present.slotOwner 23 = ownerEmpty ∧
      (withSlot present 23 ownerAnswered 1 []).slotOwner 23 = ownerAnswered ∧
      (Via.setBits = .write ∨ Via.setBits = .exchange 0 ∨ Via.setBits = .setBits) ∧
      (Via.exchange 3 = .write ∨ Via.exchange 3 = .exchange 3 ∨ Via.exchange 3 = .clearBits) ∧
      ((0x07C0 : Addr).toNat = slotBase 23 ∧ viaResult .setBits 0 0 = 0 ∧ viaResult (.exchange 1) 0 1 = 0 ∧
        viaResult .setBits 0 2 ≠ 0 ∧ ¬ (present.slotOwner 23 = ownerEmpty ∧ (viaResult .setBits 0 2).toNat = ownerReady) ∧
        ¬ (present.slotOwner 23 = ownerAnswered ∧ (viaResult .setBits 0 2).toNat = ownerEmpty)) := by
  unfold State.LinesHold State.PortOpen
  decide +kernel

/-- A care reset in progress. -/
def resetting : State :=
  { idle with
    port := { idle.port with careReset := true }
    settings := { idle.settings with state := .loading, load := some StoredSettings.blank } }

theorem witness_LoadsEnd :
    (State.reset.LinesHold ∧ State.reset.Shaped ∧ State.reset.port.startUp = true ∧ State.reset.port.careReset = false) ∧
      resetting.LinesHold ∧ resetting.Shaped ∧ resetting.port.careReset = true ∧ resetting.notices.Ordered := by
  unfold State.LinesHold State.Shaped NoticeUnit.Ordered Sequenced
  decide +kernel

theorem witness_CareResetStarts :
    present.LinesHold ∧ present.Shaped ∧ present.PortOpen ∧
      (Via.exchange 0 = .write ∨ Via.exchange 0 = .exchange 0 ∨ Via.exchange 0 = .setBits) := by
  unfold State.LinesHold State.Shaped State.PortOpen
  decide +kernel

/-- A slot of a kind with a flags byte, READY. -/
def flagged (kind flags : Nat) : State :=
  { idle with port := { idle.port with
    memory := Memory.write [] (slotBase 5) (leBytes 4 ownerReady ++ [byte kind, byte flags]), intake := [5] } }

theorem witness_UnknownKindRefused :
    (flagged 0 0).LinesHold ∧ (flagged 0 0).oldest = some 5 ∧ (flagged 0 0).slotKind 5 = 0 ∧
      (flagged 19 0).oldest = some 5 ∧ 18 < (flagged 19 0).slotKind 5 ∧
      (flagged 1 2).oldest = some 5 ∧ (flagged 1 2).slotKind 5 = 1 ∧ 2 ≤ (flagged 1 2).slotFlags 5 ∧
      (flagged 18 255).slotKind 5 = 18 ∧ 2 ≤ (flagged 18 255).slotFlags 5 := by
  unfold State.LinesHold
  decide +kernel

theorem witness_SwapAndChargeSettings :
    (ask idle 0 10 [200]).LinesHold ∧ (ask idle 0 10 [200]).Takes 0 10 ∧
      ((ask idle 23 5 [2]).Takes 23 5 ∧ 1 < (ask idle 23 5 [2]).param 23 0 1) ∧
      ((ask idle 1 5 [1, 2]).Takes 1 5 ∧ 1 < (ask idle 1 5 [1, 2]).param 1 1 1) ∧
      (ask idle 1 5 [1, 1, 100]).Takes 1 5 ∧ (ask idle 1 5 [1, 1, 100]).param 1 0 1 = bayCode .b ∧
      (ask idle 1 5 [1, 1, 100]).param 1 1 1 ≤ 1 := by
  unfold State.LinesHold State.Takes
  decide +kernel

theorem witness_DropAndBrightnessSettings :
    (ask idle 0 9 [255, 255]).LinesHold ∧ (ask idle 0 9 [255, 255]).Takes 0 9 ∧
      ((ask idle 2 7 [3]).Takes 2 7 ∧ 2 < (ask idle 2 7 [3]).param 2 0 1) ∧
      (ask idle 2 7 [2, 0xCE, 20, 0]).Takes 2 7 ∧ (ask idle 2 7 [2, 0xCE, 20, 0]).param 2 0 1 = brightModeCode .night := by
  unfold State.LinesHold State.Takes
  decide +kernel

theorem witness_DisplayAndPlatform :
    (ask idle 0 8 [2]).LinesHold ∧ ((ask idle 0 8 [2]).Takes 0 8 ∧ 1 < (ask idle 0 8 [2]).param 0 0 1) ∧
      ((ask idle 0 8 [1]).Takes 0 8 ∧ (ask idle 0 8 [1]).param 0 0 1 ≤ 1) ∧
      ((ask idle 0 16 [3]).Takes 0 16 ∧ 2 < (ask idle 0 16 [3]).param 0 0 1) ∧
      (ask idle 0 16 [2]).Takes 0 16 ∧
      (ask idle 0 16 [2]).bright.display = ((ask idle 0 16 [2]).bright.displaySetting && ((ask idle 0 16 [2]).power.platform == .run)) ∧
      (ask idle 0 16 [2]).param 0 0 1 = platformCode .run := by
  unfold State.LinesHold State.Takes
  decide +kernel

/-- A SET_CURVE of bulk buffer 15, which holds these bytes. -/
def curved (bytes : List Byte) : State :=
  ask { idle with port := { idle.port with memory := Memory.write [] (bulkBase 15) bytes } } 4 6 [15]

/-- The bytes of a point. -/
def pointBytes (lux nits : Nat) : List Byte := leBytes 4 lux ++ leBytes 2 nits ++ [0, 0]

theorem witness_CurveSetting :
    let points := fun (s : State) => (bufferPoints s.port.memory (bulkBase (s.param 4 0 1)) (s.bufferCount (s.param 4 0 1))).map clampedPoint
    let rising := curved ([2, 0, 0, 0] ++ pointBytes 0 20 ++ pointBytes 1000 1400)
    let falling := curved ([2, 0, 0, 0] ++ pointBytes 5 20 ++ pointBytes 5 1400)
    (curved []).LinesHold ∧ ((ask idle 4 6 [16]).Takes 4 6 ∧ 15 < (ask idle 4 6 [16]).param 4 0 1) ∧
      ((curved [1]).Takes 4 6 ∧ (curved [1]).param 4 0 1 ≤ 15 ∧ (curved [1]).bufferCount 15 < 2 ∧
        12 < (curved [13]).bufferCount 15) ∧
      (falling.Takes 4 6 ∧ 2 ≤ falling.bufferCount 15 ∧ falling.bufferCount 15 ≤ 12 ∧ RisingTo (points falling) 0 ∧
        ¬ RisingTo (points falling) 1) ∧
      rising.Takes 4 6 ∧ rising.param 4 0 1 ≤ 15 ∧ 2 ≤ rising.bufferCount 15 ∧ rising.bufferCount 15 ≤ 12 ∧
      RisingTo (points rising) 2 := by
  unfold State.LinesHold State.Takes RisingTo
  decide +kernel

theorem witness_HoldPlaces :
    (ask idle 0 11 [2]).LinesHold ∧ (ask idle 0 11 [2]).Shaped ∧
      ((ask idle 0 11 [2]).Takes 0 11 ∧ (ask idle 0 11 [2]).param 0 0 1 = 2) ∧
      ((ask idle 0 11 [4]).Takes 0 11 ∧ 3 < (ask idle 0 11 [4]).param 0 0 1) ∧
      (ask idle 0 11 [1, 0, 0x10, 0x0E]).Takes 0 11 ∧ HoldKind.latch .b ≠ .storage ∧
      (ask idle 0 11 [1, 0, 0x10, 0x0E]).param 0 0 1 = holdKindCode (.latch .b) ∧
      (ask idle 0 11 [1, 0, 0x10, 0x0E]).holds.inForce (.latch .b) = false ∧
      ((ask idle 0 11 [1, 0, 0x10, 0x0E]).bay .b).latch = .closed ∧ (ask idle 0 11 [1, 0, 0x10, 0x0E]).swapOf .b = none := by
  unfold State.LinesHold State.Shaped State.Takes
  decide +kernel

theorem witness_HoldStopsRelease :
    let s := ask (releasing (swapping .waiting .dc .button) .opened none) 0 11 [0]
    s.LinesHold ∧ s.Takes 0 11 ∧ s.param 0 0 1 = holdKindCode (.latch .a) ∧ s.holds.inForce (.latch .a) = false ∧
      s.swap = some (swapping .waiting .dc .button) ∧ (swapping .waiting .dc .button).bay = .a ∧
      (swapping .waiting .dc .button).phase ≠ .relatching ∧ (s.bay .a).latch = .opened := by
  unfold State.LinesHold State.Takes
  decide +kernel

theorem witness_HoldStopsRelease_switching :
    let w := swapping .switching .dc (.slot 5 0)
    let s := ask (withSlot (releasing w .closed none) 5 ownerAccepted 1 []) 0 11 [0]
    s.LinesHold ∧ s.Takes 0 11 ∧ s.param 0 0 1 = holdKindCode (.latch .a) ∧ s.holds.inForce (.latch .a) = false ∧
      s.swap = some w ∧ w.bay = .a ∧ w.phase = .switching ∧ (s.bay .a).latch = .closed ∧ s.ReleaseAgrees ∧
      s.link.Agrees ∧ s.slotOwner 0 = ownerReady ∧ 5 < 24 ∧ s.awaits w 5 := by
  refine ⟨?_, ?_, ?_, ?_, rfl, rfl, rfl, rfl, releaseAgrees_releasing _ _ _ rfl, ⟨rfl, rfl, rfl⟩, ?_, ?_, ?_⟩ <;>
    (try unfold State.LinesHold) <;> (try unfold State.Takes) <;> (try unfold State.awaits) <;> decide +kernel

/-- A SOFTWARE entry of LATCH_A that runs out. -/
def heldA : State :=
  { idle with holds := { entries := [{ kind := .latch .a, owner := .software, expiry := some 400, created := 0 }], storageGuard := false } }

theorem witness_SoftwareEntriesLeave :
    heldA.LinesHold ∧ heldA.Shaped ∧ ((ask heldA 0 12 [2]).Takes 0 12 ∧ (ask heldA 0 12 [2]).param 0 0 1 = 2) ∧
      ((ask heldA 0 12 [0]).Takes 0 12 ∧ (ask heldA 0 12 [0]).param 0 0 1 = holdKindCode (.latch .a)) ∧
      HoldKind.latch .a ≠ .storage ∧ heldA.holds.softwareExpiry (.latch .a) = some 400 := by
  unfold State.LinesHold State.Shaped State.Takes
  decide +kernel

theorem witness_ImpactRequests :
    let s := ask (storing idle [record]) 0 13 [1]
    s.LinesHold ∧ s.Shaped ∧ (s.Takes 0 13 ∧ s.impact.record (s.param 0 0 4) = some record) ∧
      ((ask s 0 13 [9]).Takes 0 13 ∧ (ask s 0 13 [9]).impact.record ((ask s 0 13 [9]).param 0 0 4) = none) ∧
      ((ask s 0 14 [1]).Takes 0 14 ∧ (ask s 0 15 []).Takes 0 15) ∧ s.StoreLimits ∧ s.port.careReset = false ∧
      s.impact.places.getD 0 none = some record := by
  unfold State.LinesHold State.Shaped State.Takes State.StoreLimits
  decide +kernel

/-- A save of slot 7 in flight. -/
def saving : State :=
  { withSlot idle 7 ownerAccepted 17 [] with
    settings := { idle.settings with
      state := .saving
      save := some { image := StoredSettings.blank, slot := 7, acceptance := 0, timer := 160, acceptedAt := 0 } } }

theorem witness_SettingsAreSaved :
    (ask idle 7 17 []).LinesHold ∧ (ask idle 7 17 []).Shaped ∧
      ((ask idle 7 17 []).Takes 7 17 ∧ (ask idle 7 17 []).settings.state = .idle) ∧
      ((ask saving 6 17 []).Takes 6 17 ∧ (ask saving 6 17 []).settings.state ≠ .idle) ∧
      saving.LinesHold ∧ saving.Shaped ∧ (∃ v, saving.settings.save = some v ∧ v.slot < 24 ∧
        saving.slotOwner v.slot = ownerAccepted ∧ saving.acceptanceOf v.slot = v.acceptance) := by
  refine ⟨?_, ?_, ?_, ?_, ?_, ?_, _, rfl, ?_⟩ <;> (try unfold State.LinesHold) <;> (try unfold State.Shaped) <;>
    (try unfold State.Takes) <;> decide +kernel

theorem witness_PackQueryTaken :
    (ask packs 0 3 [2]).LinesHold ∧ (ask packs 0 3 [2]).Shaped ∧ (ask packs 0 3 [2]).link.Agrees ∧
      ((ask packs 0 3 [2]).Takes 0 3 ∧ 1 < (ask packs 0 3 [2]).param 0 0 1) ∧
      (ask packs 0 3 [1, 3, 15]).Takes 0 3 ∧ (ask packs 0 3 [1, 3, 15]).param 0 0 1 = bayCode .b ∧
      (ask packs 0 3 [1, 3, 15]).param 0 1 1 ≤ 3 ∧ (ask packs 0 3 [1, 3, 15]).param 0 2 1 ≤ 15 := by
  refine ⟨?_, ?_, ⟨rfl, rfl, rfl⟩, ?_⟩ <;> (try unfold State.LinesHold) <;> (try unfold State.Shaped) <;>
    (try unfold State.Takes) <;> decide +kernel

theorem witness_PackQueryTaken_ends :
    let j : Job := { gaugeJob with work := .query 5 0 3 15 }
    let s := wired (withSlot packs 5 ownerAccepted 3 []) j
    let data : List Byte := List.replicate 8 0
    (s 1 .answering).LinesHold ∧ (s 1 .answering).link.Agrees ∧
      (∃ x, (s 1 .answering).link.inFlight = some x ∧ x.job.work = .query 5 0 3 15 ∧ x.discard = false ∧
        WireEnd x (.answerFrame (frame (3 :: data))) .good (some data)) ∧
      (∃ x, (s 2 (.window 84)).link.inFlight = some x ∧ WireEnd x .answerWindowExpiry .noAnswer none) ∧
      (s 1 .answering).port.careReset = false ∧ 5 < 24 ∧ 15 < 16 ∧ (s 1 .answering).slotOwner 5 = ownerAccepted ∧
      (s 1 .answering).acceptanceOf 5 = 0 := by
  refine ⟨?_, ⟨rfl, rfl⟩, ⟨_, rfl, rfl, rfl, wireEnd_good rfl ?_ ?_⟩, ⟨_, rfl, .silent 84 rfl⟩, rfl, by decide,
    by decide, ?_, rfl⟩ <;> (try unfold State.LinesHold) <;> decide +kernel

/-- Bay A barred. -/
def barredA : State := { idle with bayA := { bayIn .barred with barred := some .noAnswer } }

theorem witness_BayRecheckTaken :
    (ask barredA 0 4 [0]).LinesHold ∧ (ask barredA 0 4 [0]).Shaped ∧ (ask barredA 0 4 [0]).link.Agrees ∧
      ((ask barredA 0 4 [2]).Takes 0 4 ∧ 1 < (ask barredA 0 4 [2]).param 0 0 1) ∧
      ((ask barredA 0 4 [1]).Takes 0 4 ∧ (ask barredA 0 4 [1]).param 0 0 1 = bayCode .b ∧
        ((ask barredA 0 4 [1]).bay .b).state ≠ .barred) ∧
      (ask barredA 0 4 [0]).Takes 0 4 ∧ (ask barredA 0 4 [0]).param 0 0 1 = bayCode .a ∧
      ((ask barredA 0 4 [0]).bay .a).state = .barred := by
  refine ⟨?_, ?_, ⟨rfl, rfl, rfl⟩, ?_⟩ <;> (try unfold State.LinesHold) <;> (try unfold State.Shaped) <;>
    (try unfold State.Takes) <;> decide +kernel

/-- The monitor STARTING for slot 9. -/
def starting : State :=
  { withSlot idle 9 ownerAccepted 18 [1] with
    drop := { idle.drop with starting := some { timer := 40, slot := some (9, 0) } } }

theorem witness_SensorPortRestarts :
    starting.LinesHold ∧ starting.Shaped ∧
      ((ask starting 0 18 [1]).Takes 0 18 ∧ (ask starting 0 18 [1]).param 0 0 1 = 1 ∧
        (ask starting 0 18 [1]).drop.state = .starting) ∧
      ((ask (sampling .quiet) 0 18 [1]).Takes 0 18 ∧ (ask (sampling .quiet) 0 18 [1]).param 0 0 1 = 1 ∧
        (ask (sampling .quiet) 0 18 [1]).drop.state = .quiet) ∧
      ((ask (sampling .falling) 0 18 [1]).Takes 0 18 ∧ (ask (sampling .falling) 0 18 [1]).param 0 0 1 = 1 ∧
        (ask (sampling .falling) 0 18 [1]).drop.state = .falling) ∧
      starting.drop.starting = some { timer := 40, slot := some (9, 0) } ∧ 9 < 24 ∧
      starting.slotOwner 9 = ownerAccepted ∧ starting.acceptanceOf 9 = 0 := by
  unfold State.LinesHold State.Shaped State.Takes
  decide +kernel

theorem witness_SensorPortRestarts_impact :
    let g : Settling := { settleTimer := 2000, capTimer := 16000, q := 0, inBounce := false, target := 1 }
    let w : ImpactWindow := windowAt .drop 64 0 ⟨0, 0, 3000⟩
    let l := ask { sampling .settling with drop := { (sampling .settling).drop with settling := some g } } 0 18 [1]
    let i := ask { sampling .impact with drop := { (sampling .impact).drop with window := some w } } 0 18 [1]
    let f := storing i [record, { record with sequence := 2 }]
    (l.LinesHold ∧ l.Shaped ∧ l.Takes 0 18 ∧ l.param 0 0 1 = 1 ∧ l.drop.settling = some g ∧ l.drop.state = .settling) ∧
      (i.LinesHold ∧ i.Shaped ∧ i.Takes 0 18 ∧ i.param 0 0 1 = 1 ∧ i.drop.window = some w ∧ i.drop.state = .impact) ∧
      (i.impact.openCount < 2 ∧ i.impact.nextSequence ≤ 4294967295 ∧ i.impact.places.getD 0 none = none) ∧
      (f.impact.openCount = 2 ∧ f.impact.record 2 = some { record with sequence := 2 } ∧
        ∀ q ∈ f.impact.records, q.isOpen = true → q ≠ { record with sequence := 2 } → q.sequence < 2) := by
  refine ⟨?_, ?_, ?_, ?_⟩ <;> (try unfold State.LinesHold) <;> (try unfold State.Shaped) <;>
    (try unfold State.Takes) <;> decide +kernel

/-- The link RESETTING for slot 9. -/
def relinking : State :=
  { withSlot idle 9 ownerAccepted 18 [0] with
    link := { idle.link with state := .resetting, resetTimer := some 20, resetSlot := some (9, 0) } }

theorem witness_PackLinkRestarts :
    (relinking.LinesHold ∧ relinking.Shaped ∧ relinking.link.Agrees ∧ relinking.link.SlotsOk) ∧
      ((ask relinking 0 18 [0]).Takes 0 18 ∧ (ask relinking 0 18 [0]).param 0 0 1 = 0 ∧
        (ask relinking 0 18 [0]).link.state = .resetting) ∧
      ((ask packs 0 18 [0]).Takes 0 18 ∧ (ask packs 0 18 [0]).param 0 0 1 = 0 ∧
        (ask packs 0 18 [0]).link.state ≠ .resetting) ∧
      relinking.link.resetTimer = some 20 ∧ relinking.link.resetSlot = some (9, 0) ∧ 9 < 24 ∧
      relinking.slotOwner 9 = ownerAccepted ∧ relinking.acceptanceOf 9 = 0 := by
  refine ⟨⟨?_, ?_, ⟨rfl, rfl⟩, slotsOk_nil rfl⟩, ?_⟩ <;> (try unfold State.LinesHold) <;>
    (try unfold State.Shaped) <;> (try unfold State.Takes) <;> decide +kernel

theorem witness_BayReleaseTaken :
    (ask docked 0 1 [2]).LinesHold ∧ (ask docked 0 1 [2]).Shaped ∧
      ((ask docked 0 1 [2]).Takes 0 1 ∧ 1 < (ask docked 0 1 [2]).param 0 0 1) ∧
      ((ask idle 0 1 [0]).Takes 0 1 ∧ (ask idle 0 1 [0]).param 0 0 1 = bayCode .a ∧
        refusalOf (ask idle 0 1 [0]) .a = some (.noPack, 0, 0)) ∧
      (ask docked 0 1 [1]).Takes 0 1 ∧ (ask docked 0 1 [1]).param 0 0 1 = bayCode .b ∧
      refusalOf (ask docked 0 1 [1]) .b = none ∧ ((ask docked 0 1 [1]).bay .a).latch = .closed ∧
      (ask docked 0 1 [1]).holds.holds (.latch .a) .swap = false := by
  unfold State.LinesHold State.Shaped State.Takes
  decide +kernel

theorem witness_CancelOfWaitingRequests :
    let empty := ask idle 0 2 [5]
    let ready := ask (withSlot idle 5 ownerReady 1 []) 0 2 [5]
    let other := ask (withSlot idle 5 ownerReady 9 []) 0 2 [5]
    empty.LinesHold ∧ empty.Takes 0 2 ∧ ((ask idle 0 2 [0]).Takes 0 2 ∧ (ask idle 0 2 [0]).param 0 0 1 = 0) ∧
      ((ask idle 0 2 [24]).Takes 0 2 ∧ 24 ≤ (ask idle 0 2 [24]).param 0 0 1) ∧
      (empty.param 0 0 1 = 5 ∧ empty.slotOwner 5 = ownerEmpty) ∧
      (ready.Takes 0 2 ∧ ready.slotOwner 5 = ownerReady ∧ ready.slotTag 5 = ready.param 0 2 2 ∧ ready.slotKind 5 = 1) ∧
      other.Takes 0 2 ∧ other.slotOwner 5 = ownerReady ∧ other.slotTag 5 = other.param 0 2 2 ∧ other.slotKind 5 = 9 := by
  unfold State.LinesHold State.Takes
  decide +kernel

/-- A CANCEL in slot 0 of slot 5, ACCEPTED work of a kind. -/
def cancelling (s : State) (kind : Nat) : State := ask (withSlot s 5 ownerAccepted kind []) 0 2 [5]

theorem witness_CancelOfAcceptedWork :
    let query := cancelling packs 3
    let waits := cancelling { packs with link := { packs.link with state := .resetting, resetTimer := some 20, waiting := [{ gaugeJob with work := .query 5 0 0 0 }] } } 3
    let late := cancelling (releasing (swapping .relatching .dc (.slot 5 0)) .closing (some 1600)) 1
    let early := cancelling (releasing (swapping .switching .dc (.slot 5 0)) .closed none) 1
    let past := cancelling (releasing (swapping .waiting .dc (.slot 5 0)) .opened none) 1
    (query.LinesHold ∧ query.Shaped ∧ query.Takes 0 2 ∧ query.param 0 0 1 = 5 ∧ query.slotOwner 5 = ownerAccepted ∧
        query.slotTag 5 = query.param 0 2 2 ∧ query.slotKind 5 = 3 ∧ query.link.waiting = []) ∧
      (waits.Takes 0 2 ∧ waits.slotKind 5 = 3 ∧
        waits.link.waiting.find? (fun j => j.queryOf 5) = some { gaugeJob with work := .query 5 0 0 0 }) ∧
      (late.Takes 0 2 ∧ late.slotKind 5 = 1 ∧ late.swap = some (swapping .relatching .dc (.slot 5 0))) ∧
      (early.LinesHold ∧ early.Shaped ∧ early.Takes 0 2 ∧ early.slotKind 5 = 1 ∧ early.acceptanceOf 5 = 0 ∧
        early.swap = some (swapping .switching .dc (.slot 5 0)) ∧ (early.bay .a).latch = .closed) ∧
      (past.LinesHold ∧ past.Shaped ∧ past.Takes 0 2 ∧ past.slotKind 5 = 1 ∧
        past.swap = some (swapping .waiting .dc (.slot 5 0)) ∧ (past.bay .a).latch = .opened) ∧
      early.link.Agrees ∧ early.ReleaseAgrees ∧ waits.link.Agrees ∧ query.ReleaseAgrees ∧ past.ReleaseAgrees := by
  refine ⟨?_, ?_, ?_, ?_, ?_, ⟨rfl, rfl, rfl⟩, releaseAgrees_releasing _ _ _ rfl, ⟨rfl, rfl⟩,
    releaseAgrees_none _ rfl (by decide) (by decide) ⟨⟨nofun, nofun⟩, nofun, nofun⟩, releaseAgrees_releasing _ _ _ rfl⟩ <;> (try unfold State.LinesHold) <;>
    (try unfold State.Shaped) <;> (try unfold State.Takes) <;> decide +kernel

theorem witness_ContactOfUnreadBays :
    let jolted : State := { idle with bayA := { bayIn .jolted with jolt := some { timer := some 2000, phase := .noContact, holdTimer := none, expired := false } } }
    idle.LinesHold ∧ idle.Shaped ∧ idle.link.Agrees ∧ idle.link.SlotsOk ∧ (idle.bay .a).state = .vacant ∧
      ((jolted.bay .a).state = .jolted ∧ (jolted.bay .a).jolt = some { timer := some 2000, phase := .noContact, holdTimer := none, expired := false }) ∧
      (({ idle with bayB := bayIn .seating } : State).bay .b).state = .seating ∧
      (({ idle with bayB := bayIn .reading } : State).bay .b).state = .reading ∧ (barredA.bay .a).state = .barred := by
  refine ⟨?_, ?_, ⟨rfl, rfl, rfl⟩, slotsOk_nil rfl, ?_⟩ <;> (try unfold State.LinesHold) <;>
    (try unfold State.Shaped) <;> decide +kernel

/-- Bay A JOLTED, with the newest record open. -/
def joltedA (j : Jolt) : State :=
  storing { idle with bayA := { bayIn .jolted with jolt := some j, descriptor := some pack, gauge := some gauge } } [record]

theorem witness_ContactOfUnreadBays_jolted :
    let j := fun (p : JoltPhase) (e : Bool) => ({ timer := none, phase := p, holdTimer := none, expired := e } : Jolt)
    let s := joltedA (j .serialCheck true)
    (s.LinesHold ∧ s.Shaped ∧ s.link.Agrees ∧ s.link.SlotsOk ∧ (s.bay .a).state = .jolted ∧
        (s.bay .a).jolt = some (j .serialCheck true) ∧ record ∈ s.impact.records ∧
        ∀ q ∈ s.impact.records, q ≠ record → q.sequence < record.sequence) ∧
      ((joltedA (j .noContact false)).bay .a).jolt = some (j .noContact false) ∧
      ((joltedA (j .contactHold false)).bay .a).jolt = some (j .contactHold false) ∧
      ((joltedA (j .contactHold true)).bay .a).jolt = some (j .contactHold true) := by
  refine ⟨⟨?_, ?_, ⟨rfl, rfl, rfl⟩, slotsOk_nil rfl, ?_⟩, ?_⟩ <;> (try unfold State.LinesHold) <;>
    (try unfold State.Shaped) <;> decide +kernel

theorem witness_ContactLeavesOnline :
    packs.LinesHold ∧ packs.Shaped ∧ packs.link.Agrees ∧ packs.link.SlotsOk ∧ (packs.bay .a).state = .online ∧
      packs.swap = none ∧ (sampling .impact).drop.state = .impact := by
  refine ⟨?_, ?_, ⟨rfl, rfl, rfl⟩, slotsOk_nil rfl, ?_⟩ <;> (try unfold State.LinesHold) <;>
    (try unfold State.Shaped) <;> decide +kernel

theorem witness_ContactLeavesOnline_carrier :
    let w := swapping .waiting (.bay .b) .button
    let s := releasing w .opened none
    s.LinesHold ∧ s.Shaped ∧ s.link.Agrees ∧ s.link.SlotsOk ∧ (s.bay .b).state = .online ∧ s.swap = some w ∧
      w.carrier = .bay .b ∧ w.pathReclosed = false ∧ w.bay = otherBay .b ∧ (s.bay w.bay).state = .releasing ∧
      (s.bay w.bay).latch = .opened := by
  refine ⟨?_, ?_, ⟨rfl, rfl, rfl⟩, slotsOk_nil rfl, ?_⟩ <;> (try unfold State.LinesHold) <;>
    (try unfold State.Shaped) <;> decide +kernel

theorem witness_ReleasedPackRemoved :
    let w := swapping .waiting .dc (.slot 23 0)
    let s := withSlot (releasing w .opened none) 23 ownerAccepted 1 []
    s.LinesHold ∧ s.Shaped ∧ s.ReleaseAgrees ∧ s.link.Agrees ∧ s.link.SlotsOk ∧ s.swap = some w ∧ w.phase ≠ .relatching ∧
      s.AsksAlone w ∧ s.awaits w 23 := by
  refine ⟨?_, ?_, releaseAgrees_releasing _ _ _ rfl, ⟨rfl, rfl, rfl⟩, slotsOk_nil rfl, rfl, nofun, ?_, rfl, ?_⟩
  · unfold State.LinesHold
    decide +kernel
  · unfold State.Shaped
    decide +kernel
  · rintro k n ⟨⟩
    exact ⟨by decide, nofun⟩
  · decide +kernel

theorem witness_ReleasedPackRemoved_no_slot :
    let s := fun q => releasing (swapping .waiting .dc q) .opened none
    (s .button).LinesHold ∧ (s .button).Shaped ∧ (s .button).ReleaseAgrees ∧ (s .button).link.Agrees ∧
      (s .button).link.SlotsOk ∧ (s .button).AsksAlone (swapping .waiting .dc .button) ∧
      (s .nobody).LinesHold ∧ (s .nobody).Shaped ∧ (s .nobody).ReleaseAgrees ∧
      (s .nobody).AsksAlone (swapping .waiting .dc .nobody) := by
  refine ⟨?_, ?_, releaseAgrees_releasing _ _ _ rfl, ⟨rfl, rfl, rfl⟩, slotsOk_nil rfl, nofun, ?_, ?_,
    releaseAgrees_releasing _ _ _ rfl, nofun⟩ <;> (try unfold State.LinesHold) <;> (try unfold State.Shaped) <;>
    decide +kernel

theorem witness_ReleasedPackRemoved_relatching :
    let w := swapping .relatching .dc (.slot 23 0)
    let s := withSlot (releasing w .stuck (some 8000)) 23 ownerAccepted 1 []
    s.LinesHold ∧ s.Shaped ∧ s.ReleaseAgrees ∧ s.link.Agrees ∧ s.link.SlotsOk ∧ s.swap = some w ∧ w.phase = .relatching ∧
      w.requester = .slot 23 0 ∧ 23 < 24 ∧ (∀ j ∈ s.link.jobs, j.queryOf 23 = false) ∧ (s.bay w.bay).latch = .stuck ∧
      s.awaits w 23 := by
  refine ⟨?_, ?_, releaseAgrees_releasing _ _ _ rfl, ⟨rfl, rfl, rfl⟩, slotsOk_nil rfl, rfl, rfl, rfl, by decide, nofun,
    rfl, ?_⟩ <;> (try unfold State.LinesHold) <;> (try unfold State.Shaped) <;> (try unfold State.awaits) <;> decide +kernel

theorem witness_SeatingAndPolls :
    let s : State := { idle with bayA := { bayIn .seating with seatingTimer := some 800 }, bayB := online }
    s.LinesHold ∧ s.link.Agrees ∧ (s.bay .a).seatingTimer = some 800 ∧ (s.bay .a).state = .seating ∧
      (s.bay .b).pollDue = some 4000 := by
  refine ⟨?_, ⟨rfl, rfl, rfl⟩, ?_⟩ <;> (try unfold State.LinesHold) <;> decide

/-- A region 0 of four regions, with the serial 7. -/
def region0 : List Byte := leBytes 2 0x5C3A ++ [4, 1, 4, 0, 0, 0] ++ leBytes 8 7

/-- Bay A READING, its full IDENT job in flight with these regions read. -/
def reading (regions : List (List Byte)) (attempt : Nat) (phase : WirePhase) : State :=
  wired { idle with bayA := bayIn .reading } { gaugeJob with work := .identFull regions } attempt phase

theorem witness_SeatingAndPolls_reads :
    let s := reading [] 1 .answering
    (s.LinesHold ∧ s.link.Agrees ∧ (s.bay .a).state = .reading ∧
        ∃ x, s.link.inFlight = some x ∧ x.job.bay = .a ∧ x.job.work = .identFull [] ∧
          WireEnd x (.answerFrame (frame (0 :: region0))) .good (some region0)) ∧
      identGoesOn [] (some region0) ∧ s.link.waiting = [] ∧
      (∃ x, (reading [region0] 1 (.window 84)).link.inFlight = some x ∧ x.job.work = .identFull [region0] ∧
        WireEnd x .answerWindowExpiry .noAnswer none) ∧
      ¬ identGoesOn [region0] none ∧ ¬ identGoesOn [] (some [0, 0]) ∧
      barredFor (regionsRead [] (some [0, 0])) false BayContext.powerOn = some .notAPack ∧
      barredFor [region0, leBytes 2 14400 ++ [0, 0, 0, 0, 0, 0] ++ leBytes 4 45000, [], []] false BayContext.powerOn = none := by
  refine ⟨⟨?_, ⟨rfl, rfl⟩, rfl, _, rfl, rfl, rfl, wireEnd_good rfl ?_ ?_⟩, ?_, rfl, ⟨_, rfl, rfl, .silent 84 rfl⟩,
    ?_⟩ <;> (try unfold State.LinesHold) <;> (try unfold identGoesOn) <;> decide +kernel

theorem witness_JoltTimersEnd :
    let j : Jolt := { timer := some 2000, phase := .contactHold, holdTimer := some 80, expired := false }
    let n : Jolt := { timer := some 2000, phase := .noContact, holdTimer := none, expired := false }
    let s : State := { idle with bayA := { bayIn .jolted with jolt := some j }, bayB := { bayIn .jolted with jolt := some n } }
    s.LinesHold ∧ s.Shaped ∧ s.link.Agrees ∧ (s.bay .a).jolt = some j ∧ (s.bay .a).state = .jolted ∧
      j.holdTimer = some 80 ∧ j.timer = some 2000 ∧ j.phase ≠ .noContact ∧ (s.bay .b).jolt = some n ∧
      (s.bay .b).state = .jolted ∧ n.timer = some 2000 ∧ n.phase = .noContact := by
  refine ⟨?_, ?_, ⟨rfl, rfl, rfl⟩, ?_⟩ <;> (try unfold State.LinesHold) <;> (try unfold State.Shaped) <;> decide +kernel

theorem witness_JoltTimersEnd_serial :
    let j : Jolt := { timer := some 2000, phase := .serialCheck, holdTimer := none, expired := false }
    let s := fun (a : Nat) (p : WirePhase) => wired (joltedA j) { gaugeJob with work := .identSerial } a p
    ((s 1 .answering).LinesHold ∧ (s 1 .answering).Shaped ∧ (s 1 .answering).link.Agrees ∧
        ((s 1 .answering).bay .a).state = .jolted ∧ ((s 1 .answering).bay .a).jolt = some j ∧
        ∃ x, (s 1 .answering).link.inFlight = some x ∧ x.job.bay = .a ∧ x.job.work = .identSerial ∧
          WireEnd x (.answerFrame (frame (0 :: region0))) .good (some region0)) ∧
      (field region0 0 2 = 0x5C3A ∧ ((s 1 .answering).bay .a).descriptor = some pack ∧
        pack.serial = BitVec.ofNat 64 (field region0 8 8)) ∧
      (∃ x, (s 2 .answering).link.inFlight = some x ∧ WireEnd x .answerFrameGapEnd .linkError none) ∧
      record ∈ (s 1 .answering).impact.records := by
  refine ⟨⟨?_, ?_, ⟨rfl, rfl⟩, rfl, rfl, _, rfl, rfl, rfl, wireEnd_good rfl ?_ ?_⟩, ?_, ⟨_, rfl, .gap rfl rfl⟩,
    ?_⟩ <;> (try unfold State.LinesHold) <;> (try unfold State.Shaped) <;> decide +kernel

theorem witness_ButtonsRequestReleases :
    let s : State := { docked with bayA := { online with pressTimer := some 200 } }
    let e : State := { idle with bayA := { BayContext.powerOn with pressTimer := some 200 } }
    s.LinesHold ∧ s.Shaped ∧ (s.bay .a).pressTimer = some 200 ∧ refusalOf s .a = none ∧ (s.bay .b).latch = .closed ∧
      s.holds.holds (.latch .b) .swap = false ∧ (e.bay .a).pressTimer = some 200 ∧ refusalOf e .a = some (.noPack, 0, 0) := by
  unfold State.LinesHold State.Shaped
  decide +kernel

theorem witness_LatchTravels :
    let s := fun (l : LatchState) => ({ packs with bayA := { online with latch := l, latchTimer := some 1600 } } : State)
    (s .opening).LinesHold ∧ ((s .opening).bay .a).state ≠ .releasing ∧ ((s .opening).bay .a).latchTimer = some 1600 ∧
      ((s .opening).bay .a).latch = .opening ∧ ((s .closing).bay .a).latch = .closing ∧
      ((s .stuck).bay .a).latch = .stuck := by
  unfold State.LinesHold
  decide

theorem witness_ReleaseStages :
    let w := swapping .switching .dc .button
    let v := swapping .unlatching .dc .button
    let u := swapping .waiting .dc .button
    let r := swapping .relatching .dc .button
    let c := { swapping .relatching .dc (.slot 23 0) with cancelRequested := true, abortReason := none }
    let f := withSlot (releasing c .stuck (some 8000)) 23 ownerAccepted 1 []
    let a := swapping .relatching .dc (.slot 23 0)
    let e := withSlot (releasing a .closing (some 1600)) 23 ownerAccepted 1 []
    ((releasing w .closed none).LinesHold ∧ (releasing w .closed none).Shaped ∧ w.switchingTimer = some 80 ∧
        ((releasing w .closed none).bay .a).latch = .closed) ∧
      (v.phase = .unlatching ∧ ((releasing v .opening (some 1600)).bay .a).latch = .opening ∧
        ((releasing v .opening (some 1600)).bay .a).latchTimer = some 1600) ∧
      (u.windowTimer = some 120000 ∧ ((releasing u .opened none).bay .a).latch = .opened) ∧
      (r.phase = .relatching ∧ ((releasing r .closing (some 1600)).bay .a).latch = .closing ∧
        r.abortReason = some .latchFault ∧ r.cancelRequested = false ∧ r.requester = .button) ∧
      (c.phase = .relatching ∧ c.cancelRequested = true ∧ c.requester = .slot 23 (f.acceptanceOf 23) ∧ 23 < 24 ∧
        f.slotOwner 23 = ownerAccepted) ∧
      (a.phase = .relatching ∧ a.requester = .slot 23 (e.acceptanceOf 23) ∧ e.slotOwner 23 = ownerAccepted ∧
        (e.bay .a).latch = .closing ∧ (e.bay .a).latchTimer = some 1600 ∧ fixedEndOf a = .aborted .latchFault) ∧
      (u.phase = .waiting ∧ ((releasing u .opened none).bay .a).latch = .opened) ∧
      (releasing w .closed none).ReleaseAgrees ∧ (releasing w .closed none).link.Agrees ∧ e.ReleaseAgrees := by
  refine ⟨?_, ?_, ?_, ?_, ?_, ?_, ?_, releaseAgrees_releasing _ _ _ rfl, ⟨rfl, rfl, rfl⟩,
    releaseAgrees_releasing _ _ _ rfl⟩ <;> (try unfold State.LinesHold) <;>
    (try unfold State.Shaped) <;> decide +kernel

theorem witness_AdapterAndRail :
    let s : State := { docked with power := { docked.power with debounce := some { timer := 200, level := false } } }
    let r := releasing (swapping .waiting .dc .button) .opened none
    let q : State := { r with power := { r.power with dc := some .c90, debounce := some { timer := 200, level := false } } }
    s.LinesHold ∧ s.power.debounce = some { timer := 200, level := false } ∧ s.swap = none ∧
      (({ idle with power := { idle.power with debounce := some { timer := 200, level := true } } } : State).power.debounce =
        some { timer := 200, level := true }) ∧
      q.LinesHold ∧ q.swap = some (swapping .waiting .dc .button) ∧ (q.bay .a).state = .releasing ∧
      (q.bay .a).latch = .opened ∧ (swapping .waiting .dc .button).carrier = .dc ∧
      (swapping .waiting .dc .button).pathReclosed = false ∧ (swapping .waiting .dc .button).phase ≠ .relatching := by
  unfold State.LinesHold
  decide

theorem witness_BudgetStepAccounts :
    let r := releasing (swapping .waiting .bridge .button) .opened none
    packs.LinesHold ∧ packs.notices.Ordered ∧ packs.EpisodeAgrees ∧ packs.swap = none ∧ packs.notices.listed + 3 ≤ 31 ∧
      ({ packs with notices := fullNotices } : State).notices.listed = 31 ∧
      r.LinesHold ∧ r.notices.Ordered ∧ r.EpisodeAgrees ∧ r.swap = some (swapping .waiting .bridge .button) ∧
      (r.bay .a).state = .releasing ∧ (r.bay .a).latch = .opened := by
  unfold State.LinesHold NoticeUnit.Ordered Sequenced State.EpisodeAgrees
  decide +kernel

theorem witness_BrightnessStepMoves :
    let s : State := { idle with
      bright := { idle.bright with displaySetting := true, display := true, c := 385, duty := 1126 }
      power := { idle.power with allowance := 3000, platform := .run } }
    s.LinesHold ∧ s.BrightBound ∧ idle.LinesHold ∧ idle.BrightBound ∧ 2 ≤ s.bright.curve.length ∧
      RisingTo s.bright.curve (s.bright.curve.length - 1) := by
  unfold State.LinesHold State.BrightBound RisingTo
  decide +kernel

theorem witness_SamplesAreJudged :
    let q := sampling .quiet
    let f : State := { sampling .falling with drop := { (sampling .falling).drop with n := some 64, r := some 6 } }
    let i : State := { sampling .impact with drop := { (sampling .impact).drop with window := some (windowAt .drop 64 0 ⟨0, 0, 3000⟩) } }
    let g : Settling := { settleTimer := 2000, capTimer := 16000, q := 62, inBounce := false, target := 1 }
    let l : State := storing { sampling .settling with drop := { (sampling .settling).drop with settling := some g } } [record]
    (q.LinesHold ∧ q.Shaped ∧ q.drop.sampleDue = some 45 ∧ q.drop.state = .quiet ∧ q.drop.n = none ∧ q.drop.r = none ∧
        q.Low ⟨349, 0, 0⟩ ∧ ¬ q.Low ⟨350, 0, 0⟩ ∧ ¬ q.Strike ⟨5999, 0, 0⟩) ∧
      ((sampling .suspect).drop.state = .suspect ∧ 1 + 1 < (sampling .suspect).drop.thresholds.run) ∧
      (f.drop.state = .falling ∧ f.drop.r = some 6 ∧ ¬ f.Low ⟨2999, 0, 0⟩ ∧ ¬ f.High ⟨2999, 0, 0⟩) ∧
      (i.drop.state = .impact ∧ ∃ w, i.drop.window = some w ∧ w.count < 15) ∧
      (l.drop.state = .settling ∧ l.drop.settling = some g ∧ g.q + 1 < l.drop.thresholds.run ∧ l.High ⟨3000, 0, 0⟩ ∧
        l.impact.record g.target = some record ∧ record.isOpen = true ∧ g.inBounce = false ∧ l.port.held = false) := by
  refine ⟨?_, ?_, ?_, ⟨?_, _, rfl, ?_⟩, ?_⟩ <;> (try unfold State.LinesHold) <;> (try unfold State.Shaped) <;>
    (try unfold State.Low) <;> (try unfold State.Strike) <;> (try unfold State.High) <;> decide +kernel

theorem witness_SensorIsLost :
    let s := fun (m : MonitorState) (k : Nat) => ({ sampling m with drop := { (sampling m).drop with missing := k, n := some 64 } } : State)
    ((s .falling 2).LinesHold ∧ (s .falling 2).Shaped ∧ (s .falling 2).drop.sampleDue = some 45 ∧ (s .falling 2).drop.missing < 3) ∧
      (s .quiet 3).drop.missing = 3 ∧ (s .quiet 3).drop.state = .quiet ∧ (s .settling 3).drop.state = .settling ∧
      (Instr.sensorLoss = .sensorLoss ∨ Instr.sensorLoss = .missingSample) := by
  unfold State.LinesHold State.Shaped
  decide +kernel

theorem witness_SensorIsLost_impact :
    let w : ImpactWindow := windowAt .drop 64 0 ⟨0, 0, 3000⟩
    let s : State := { sampling .impact with drop := { (sampling .impact).drop with missing := 3, window := some w } }
    s.LinesHold ∧ s.Shaped ∧ s.drop.sampleDue = some 45 ∧ s.drop.missing = 3 ∧ s.drop.window = some w ∧
      s.drop.state = .impact ∧ s.impact.openCount < 2 ∧ s.impact.nextSequence ≤ 4294967295 ∧
      s.impact.places.getD 0 none = none ∧
      (storing s [record, { record with sequence := 2 }]).impact.openCount = 2 := by
  unfold State.LinesHold State.Shaped
  decide +kernel

theorem witness_FallsBegin :
    let s : State := { sampling .suspect with drop := { (sampling .suspect).drop with n := some 63 } }
    let r : State := { releasing (swapping .waiting .dc .button) .opened none with drop := s.drop }
    let g : State := guarded { sampling .falling with drop := { (sampling .falling).drop with
      n := some 64, r := some 0, episode := some { records := [], continued := false } } }
    (s.LinesHold ∧ s.Shaped ∧ s.drop.sampleDue = some 45 ∧ s.NoFall ∧ s.drop.episode = none ∧ s.swap = none ∧
        s.drop.state = .suspect ∧ s.Low ⟨0, 0, 0⟩ ∧ s.drop.thresholds.run ≤ 63 + 1 ∧ ¬ s.Low ⟨6000, 0, 0⟩ ∧
        s.Strike ⟨6000, 0, 0⟩) ∧
      (r.LinesHold ∧ r.Shaped ∧ r.NoFall ∧ (r.bay .a).latch = .opened ∧ r.swap = some (swapping .waiting .dc .button)) ∧
      (g.AllFall ∧ g.drop.state = .falling ∧ g.drop.guardTail = none ∧ g.High ⟨3000, 0, 0⟩) := by
  unfold State.LinesHold State.Shaped State.NoFall State.AllFall State.Low State.Strike State.High
  decide +kernel

theorem witness_FallsBegin_again :
    let g : Settling := { settleTimer := 2000, capTimer := 16000, q := 63, inBounce := false, target := 1 }
    let e : Episode := { records := [1], continued := false }
    let s : State := { sampling .settling with drop := { (sampling .settling).drop with settling := some g, episode := some e } }
    s.LinesHold ∧ s.Shaped ∧ s.drop.sampleDue = some 45 ∧ s.drop.state = .settling ∧ s.drop.settling = some g ∧
      s.drop.episode = some e ∧ s.Low ⟨0, 0, 0⟩ ∧ ¬ s.High ⟨0, 0, 0⟩ ∧ s.drop.thresholds.run ≤ g.q + 1 := by
  unfold State.LinesHold State.Shaped State.Low State.High
  decide +kernel

theorem witness_FallsEnd :
    let e : Episode := { records := [1], continued := false }
    let f : State := guarded (storing { sampling .falling with drop := { (sampling .falling).drop with n := some 64, r := some 7, episode := some e } } [record])
    let g : Settling := { settleTimer := 2000, capTimer := 16000, q := 0, inBounce := false, target := 1 }
    let l : State := guarded (storing { sampling .settling with drop := { (sampling .settling).drop with settling := some g, episode := some e } } [record])
    let o : State := guarded (storing { sampling .offline with drop := { (sampling .offline).drop with guardTail := some 2000, episode := some e } } [record])
    ({ f with holds := { f.holds with storageGuard := false } } : State).link.Agrees ∧
      (f.LinesHold ∧ f.Shaped ∧ f.drop.sampleDue = some 45 ∧ f.drop.state = .falling ∧ f.drop.n = some 64 ∧
        f.drop.r = some 7 ∧ ¬ f.Low ⟨1000, 0, 0⟩ ∧ ¬ f.High ⟨1000, 0, 0⟩) ∧
      (l.LinesHold ∧ l.Shaped ∧ l.drop.settling = some g ∧ l.drop.state = .settling) ∧
      o.LinesHold ∧ o.Shaped ∧ o.drop.guardTail = some 2000 := by
  refine ⟨⟨rfl, rfl, rfl⟩, ?_⟩
  unfold State.LinesHold State.Shaped State.Low State.High
  decide +kernel

theorem witness_ImpactsAreRecorded :
    let w : ImpactWindow := { windowAt .drop 400 0 ⟨-9000, 4000, 6000⟩ with count := 15 }
    let s : State := { sampling .impact with drop := { (sampling .impact).drop with window := some w } }
    let f : State := storing s [record, { record with sequence := 2 }]
    (s.LinesHold ∧ s.Shaped ∧ s.drop.sampleDue = some 45 ∧ s.drop.window = some w ∧ s.drop.state = .impact ∧
        w.count = 15 ∧ s.drop.missing < 3 ∧ s.impact.openCount < 2 ∧ s.impact.nextSequence ≤ 4294967295 ∧
        s.impact.places.getD 0 none = none) ∧
      (f.impact.openCount = 2 ∧ f.impact.record 2 = some { record with sequence := 2 } ∧
        ∀ q ∈ f.impact.records, q.isOpen = true → q ≠ { record with sequence := 2 } → q.sequence < 2) := by
  unfold State.LinesHold State.Shaped
  decide +kernel

theorem witness_WireAttempts :
    let s := wired packs gaugeJob 1 (.sending 4)
    s.LinesHold ∧ s.link.Agrees ∧ (∃ x, s.link.inFlight = some x ∧ x.phase = .sending 4 ∧ x.job.work = .gauge) ∧
      (∃ x, (wired packs gaugeJob 1 (.window 84)).link.inFlight = some x ∧ x.phase = .window 84) ∧
      (∃ x, (wired packs gaugeJob 2 .answering).link.inFlight = some x ∧ x.phase = .answering ∧ x.attempt = 2) ∧
      (s.bay .a).state = .online ∧ gaugeJob.work.answerGood [] = false ∧ (List.replicate 15 (0 : Byte)).length = 15 := by
  refine ⟨?_, ⟨rfl, rfl⟩, ⟨_, rfl, rfl, rfl⟩, ⟨_, rfl, rfl⟩, ⟨_, rfl, rfl, rfl⟩, rfl, by decide, rfl⟩
  unfold State.LinesHold
  decide

theorem witness_WireAttempts_carrier_fault :
    let w := swapping .waiting (.bay .b) .button
    let s := wired (releasing w .opened none) { gaugeJob with bay := .b } 1 .answering
    s.LinesHold ∧ s.link.Agrees ∧ (∃ x, s.link.inFlight = some x ∧ x.phase = .answering ∧ x.job.work = .gauge ∧
        x.job.bay = .b) ∧ (s.bay .b).state = .online ∧ s.swap = some w ∧ w.carrier = .bay .b ∧ w.pathReclosed = false ∧
      w.bay = otherBay .b ∧ (s.bay w.bay).state = .releasing ∧ (s.bay w.bay).latch = .opened := by
  refine ⟨?_, ⟨rfl, rfl⟩, ⟨_, rfl, rfl, rfl, rfl⟩, rfl, rfl, rfl, rfl, rfl, rfl, rfl⟩
  unfold State.LinesHold
  decide +kernel

theorem witness_WireAttempts_fault_and_stamp :
    let f := wired packs gaugeJob 1 .answering
    let i : StampItem := { sequence := 1, severity := 1 }
    let s := wired (storing packs [{ record with stampA := .pending }]) { gaugeJob with work := .stamp [i] [i] } 1 .answering
    (f.LinesHold ∧ f.link.Agrees ∧ f.swap = none ∧ (∃ x, f.link.inFlight = some x ∧ x.phase = .answering ∧
        x.job.work = .gauge ∧ x.job.bay = .a) ∧ (f.bay .a).state = .online ∧
        (List.replicate 15 (1 : Byte)).length = 15 ∧ ((List.replicate 15 (1 : Byte)).getD 14 0).getLsbD 0 = true) ∧
      (s.LinesHold ∧ s.Shaped ∧ s.link.Agrees ∧ ∃ x, s.link.inFlight = some x ∧ x.job.work = .stamp [i] [i] ∧
        ∃ v, x.stamp = some v ∧ v.count = 1 ∧ WireEnd x (.answerFrame ([1, 0] ++ [crc8 [1, 0]])) .good (some [1, 0]) ∧
          s.impact.record 1 = some { record with stampA := .pending }) := by
  refine ⟨⟨?_, ⟨rfl, rfl⟩, rfl, ⟨_, rfl, rfl, rfl, rfl⟩, rfl, rfl, by decide⟩, ?_, ?_, ⟨rfl, rfl⟩, _, rfl, rfl, _, rfl, rfl,
    wireEnd_good rfl ?_ ?_, ?_⟩ <;> (try unfold State.LinesHold) <;> (try unfold State.Shaped) <;> decide +kernel

/-! ### Witnesses of the clauses on records and slots of jobs that leave, on full lists and stores, and on ends at once -/

/-- A query of slot 5 for bay A that waits behind a stamp. -/
def behind : Job := { gaugeJob with work := .query 5 0 0 0, order := 1 }

/-- A state whose link has a STAMP job of bay A in flight, for a record PENDING, and a QUERY job of bay A that waits, for
slot 5. -/
def working (s : State) : State :=
  let u := wired (withSlot (storing s [{ record with stampA := .pending }]) 5 ownerAccepted 3 [])
    { gaugeJob with work := .stamp [{ sequence := 1, severity := 1 }] [] } 1 .answering
  { u with link := { u.link with waiting := [behind] } }

/-- The jobs of `working` stand: the record is PENDING for one, and a slot waits for the other alone. -/
abbrev Works (s : State) : Prop :=
  s.link.dropsStamp (ofBay .a) .a 1 = true ∧ s.impact.record 1 = some { record with stampA := .pending } ∧
    behind ∈ s.link.jobs ∧ (∀ i ∈ s.link.jobs, i.queryOf 5 = true → i = behind) ∧ s.slotOwner 5 = ownerAccepted ∧
    s.acceptanceOf 5 = 0

theorem working_agrees {s : State} (h : s.link.resetTimer = none) : (working s).link.Agrees := ⟨rfl, h⟩

theorem working_slotsOk (s : State) : (working s).link.SlotsOk := by
  intro j hj
  have : j = { gaugeJob with work := .stamp [{ sequence := 1, severity := 1 }] [] } ∨ j = behind := by
    simpa [working, wired, PackLink.jobs, PackLink.flying, startTransaction] using hj
  rcases this with rfl | rfl
  · trivial
  · show 5 < 24
    decide

theorem witness_BayRecheckTaken_stamp :
    let s := ask (working barredA) 0 4 [0]
    s.LinesHold ∧ s.Shaped ∧ s.link.Agrees ∧ s.Takes 0 4 ∧ (s.bay .a).state = .barred ∧ Works s := by
  refine ⟨?_, ?_, working_agrees rfl, ?_, ?_⟩ <;> (try unfold State.LinesHold) <;> (try unfold State.Shaped) <;>
    (try unfold State.Takes) <;> decide +kernel

theorem witness_PackLinkRestarts_jobs :
    let s := ask (working packs) 0 18 [0]
    s.LinesHold ∧ s.Shaped ∧ s.link.Agrees ∧ s.link.SlotsOk ∧ s.Takes 0 18 ∧ s.param 0 0 1 = 0 ∧
      s.link.state ≠ .resetting ∧ Works s ∧ ∀ j ∈ s.link.jobs, j.queryOf 0 = false := by
  refine ⟨?_, ?_, working_agrees rfl, working_slotsOk _, ?_, ?_⟩ <;> (try unfold State.LinesHold) <;> (try unfold State.Shaped) <;>
    (try unfold State.Takes) <;> decide +kernel

/-- A record whose stamp is PENDING for both bays, each named by a STAMP job; its place stands at the count 2. -/
def bothPending : State :=
  let s := storing (ask (working packs) 0 18 [0]) [{ record with stampA := .pending, stampB := .pending }]
  let item : StampItem := { sequence := 1, severity := 1 }
  { s with
    port := { s.port with memory := rewritePlace s.port.memory 0 (s.impact.places.getD 0 none) }
    link := { s.link with
      waiting := [{ gaugeJob with bay := .b, work := .stamp [item] [], order := 1 }]
      inFlight := s.link.inFlight.map (fun t => { t with job := { t.job with work := .stamp [item] [] } }) } }

theorem witness_PackLinkRestarts_places :
    (bothPending.LinesHold ∧ bothPending.Shaped ∧ bothPending.Takes 0 18 ∧ bothPending.param 0 0 1 = 0 ∧
      bothPending.link.state ≠ .resetting ∧ bothPending.StoreLimits ∧ bothPending.port.careReset = false ∧
      bothPending.impact.places.getD 0 none = some { record with stampA := .pending, stampB := .pending } ∧
      bothPending.failures (fun _ => true) { record with stampA := .pending, stampB := .pending } = 2) ∧
      bothPending.link.Agrees ∧ bothPending.link.SlotsOk := by
  refine ⟨?_, ⟨rfl, rfl⟩, fun j hj => ?_⟩
  · unfold State.LinesHold State.Shaped State.Takes State.StoreLimits
    decide +kernel
  · have : j.work = .stamp [{ sequence := 1, severity := 1 }] [] := by
      simp [bothPending, working, wired, storing, ask, PackLink.jobs, PackLink.flying, startTransaction] at hj
      rcases hj with rfl | rfl <;> rfl
    rw [this]
    trivial

/-- The FAILED outcomes of both bays rewrite the place twice, the second with the close (R43, R162, R167). -/
theorem test_outcomes_rewrite :
    let t := (bothPending.stampOutcome .a .failed 1).stampOutcome .b .failed 1
    Memory.readNat bothPending.port.memory 0x0C00 4 = 2 ∧ Memory.readNat t.port.memory 0x0C00 4 = 6 ∧
      (t.impact.record 1).map (·.isOpen) = some false := by decide +kernel

theorem witness_ContactOfUnreadBays_jobs :
    let j : Jolt := { timer := none, phase := .serialCheck, holdTimer := none, expired := true }
    let s := working barredA
    let u := working (joltedA j)
    (s.LinesHold ∧ s.Shaped ∧ s.link.Agrees ∧ s.link.SlotsOk ∧ (s.bay .a).state = .barred ∧ Works s) ∧
      u.LinesHold ∧ u.Shaped ∧ u.link.Agrees ∧ u.link.SlotsOk ∧ (u.bay .a).state = .jolted ∧ (u.bay .a).jolt = some j ∧
      Works u := by
  refine ⟨⟨?_, ?_, working_agrees rfl, working_slotsOk _, ?_⟩, ?_, ?_, working_agrees rfl, working_slotsOk _, ?_⟩ <;> (try unfold State.LinesHold) <;> (try unfold State.Shaped) <;> decide +kernel

theorem witness_ContactLeavesOnline_jobs :
    let s := working packs
    s.LinesHold ∧ s.Shaped ∧ s.link.Agrees ∧ s.link.SlotsOk ∧ (s.bay .a).state = .online ∧ s.swap = none ∧ Works s := by
  refine ⟨?_, ?_, working_agrees rfl, working_slotsOk _, rfl, rfl, ?_⟩ <;> (try unfold State.LinesHold) <;>
    (try unfold State.Shaped) <;> decide +kernel

theorem witness_ReleasedPackRemoved_jobs :
    let w := swapping .waiting .dc (.slot 23 0)
    let s := working (withSlot (releasing w .opened none) 23 ownerAccepted 1 [])
    s.LinesHold ∧ s.Shaped ∧ s.link.Agrees ∧ s.link.SlotsOk ∧ s.slotOwner 23 = ownerAccepted ∧ s.swap = some w ∧
      s.AsksAlone w ∧ Works s := by
  refine ⟨?_, ?_, working_agrees rfl, working_slotsOk _, ?_, rfl, ?_, ?_⟩
  · unfold State.LinesHold
    decide +kernel
  · unfold State.Shaped
    decide +kernel
  · decide +kernel
  · rintro k n ⟨⟩
    decide +kernel
  · decide +kernel

/-- A release of bay A in SWITCHING, its latch CLOSED. -/
def switching (carrier : Carrier) : State := releasing (swapping .switching carrier (.slot 23 0)) .closed none

/-- The release of `switching` asks for a slot that no job names. -/
theorem switching_asks (s : State) (carrier : Carrier) (h : s.link.jobs = []) :
    s.AsksAlone (swapping .switching carrier (.slot 23 0)) := by
  rintro k n ⟨⟩
  rw [h]
  exact ⟨by decide, nofun⟩

theorem witness_ContactLeavesOnline_ends :
    let w := swapping .switching (.bay .b) (.slot 23 0)
    let s := switching (.bay .b)
    s.LinesHold ∧ s.Shaped ∧ s.link.Agrees ∧ s.link.SlotsOk ∧ (s.bay .b).state = .online ∧ s.swap = some w ∧
      s.AsksAlone w ∧ ∃ t, exec (.contactLoss .b) s = .next t ∧ LossEnds s t w := by
  refine ⟨?_, ?_, ⟨rfl, rfl, rfl⟩, slotsOk_nil rfl, rfl, rfl, switching_asks _ _ rfl, _, rfl, ?_, ?_, .inl rfl⟩
  · unfold State.LinesHold
    decide +kernel
  · unfold State.Shaped
    decide +kernel
  · decide +kernel
  · decide

theorem witness_ContactLeavesOnline_goes_on :
    let w := swapping .switching (.bay .b) .button
    let s := releasing w .closing (some 1600)
    s.LinesHold ∧ s.Shaped ∧ s.link.Agrees ∧ s.swap = some w ∧ ¬ s.latchedFor w ∧
      ∃ t, exec (.contactLoss .b) s = .next t ∧ firstCarrier t .a = none := by
  refine ⟨?_, ?_, ⟨rfl, rfl, rfl⟩, rfl, ?_, _, rfl, ?_⟩ <;> (try unfold State.LinesHold) <;>
    (try unfold State.Shaped) <;> (try unfold State.latchedFor) <;> decide +kernel

theorem witness_ReleaseStages_failed_drive :
    let w := swapping .switching .dc .button
    let s := fun l => releasing w l (some 1600)
    w.switchingTimer = some 80 ∧ (s .closing).LinesHold ∧ (s .closing).Shaped ∧ (s .closing).ReleaseAgrees ∧
      (s .closing).link.Agrees ∧ ((s .closing).bay .a).latch ≠ .closed ∧ ((s .closing).bay .a).latch ≠ .stuck ∧
      (s .stuck).LinesHold ∧ (s .stuck).Shaped ∧ (s .stuck).ReleaseAgrees ∧ ((s .stuck).bay .a).latch = .stuck := by
  refine ⟨rfl, ?_, ?_, releaseAgrees_releasing _ _ _ rfl, ⟨rfl, rfl, rfl⟩, nofun, nofun, ?_, ?_,
    releaseAgrees_releasing _ _ _ rfl, rfl⟩ <;> (try unfold State.LinesHold) <;> (try unfold State.Shaped) <;>
    decide +kernel

/-- `switching`, carried by DC, which is about to go, with the other bay's pack stale. -/
def switchingDc : State :=
  let s := switching .dc
  { s with
    bayB := { s.bayB with stale := true }
    power := { s.power with dc := some .c90, debounce := some { timer := 200, level := false } } }

theorem witness_AdapterAndRail_ends :
    let w := swapping .switching .dc (.slot 23 0)
    switchingDc.LinesHold ∧ switchingDc.link.Agrees ∧ switchingDc.swap = some w ∧ switchingDc.AsksAlone w ∧
      (switchingDc.bay .a).state = .releasing ∧
      ∃ t, exec (.dcDebounceExpiry .c65) switchingDc = .next t ∧ LossEnds switchingDc t w := by
  refine ⟨?_, ⟨rfl, rfl, rfl⟩, rfl, switching_asks _ _ rfl, rfl, _, rfl, ?_, nofun, .inl rfl⟩
  · unfold State.LinesHold
    decide +kernel
  · decide +kernel

/-- A notice list of n entries from index 0 on. -/
def listing (n : Nat) : NoticeUnit :=
  { idle.notices with
    bottom := n, counter := n + 1
    entries := (List.range n).map (fun i => { entryOf 0 0 .packSeated (some .a) 0 [] with sequence := i + 1 }) }

/-- `switching`, carried by an empty bridge cell, with the other bay's pack stale and room for two notices. -/
def switchingBridge : State :=
  let s := switching .bridge
  { s with bayB := { s.bayB with stale := true }, notices := listing 29 }

theorem witness_BudgetStepAccounts_ends :
    let w := swapping .switching .bridge (.slot 23 0)
    let s := switchingBridge
    s.LinesHold ∧ s.notices.Ordered ∧ s.EpisodeAgrees ∧ s.notices.listed = 29 ∧ s.link.Agrees ∧ s.swap = some w ∧
      s.AsksAlone w ∧ (s.bay .a).state = .releasing ∧
      ∃ t, exec .budgetStep s = .next t ∧
        ¬ (loadNeed t ≤ 12000 ∧ loadNeed t * (s.swapWindow + 15) ≤ t.power.bridgeEnergy) ∧ LossEnds s t w := by
  refine ⟨?_, ?_, ?_, ?_, ⟨rfl, rfl, rfl⟩, rfl, switching_asks _ _ rfl, rfl, _, rfl, ?_, ?_, nofun, .inl rfl⟩ <;>
    (try unfold State.LinesHold) <;> (try unfold NoticeUnit.Ordered Sequenced) <;> (try unfold State.EpisodeAgrees) <;>
    decide +kernel

theorem witness_BudgetStepAccounts_lists :
    let s := fun n => ({ packs with notices := listing n } : State)
    (s 29).LinesHold ∧ (s 29).notices.Ordered ∧ (s 29).notices.listed = 29 ∧ (s 30).LinesHold ∧ (s 30).notices.Ordered ∧
      (s 30).notices.listed = 30 := by
  unfold State.LinesHold NoticeUnit.Ordered Sequenced
  decide +kernel

theorem witness_FallsBegin_ends :
    let w := swapping .switching .dc (.slot 23 0)
    let s : State := { switching .dc with drop := { (sampling .suspect).drop with n := some 63 } }
    (s.LinesHold ∧ s.Shaped ∧ s.drop.sampleDue = some 45 ∧ s.NoFall ∧ s.drop.episode = none ∧
        s.holds.inForce (.latch w.bay) = false ∧ s.drop.state = .suspect ∧ s.Low ⟨0, 0, 0⟩ ∧
        s.drop.thresholds.run ≤ 63 + 1 ∧ ¬ s.Low ⟨6000, 0, 0⟩ ∧ s.Strike ⟨6000, 0, 0⟩) ∧
      s.swap = some w ∧ w.phase ≠ .relatching ∧ s.latchedFor w ∧ s.link.Agrees ∧ s.AsksAlone w ∧
      (s.bay (otherBay w.bay)).latch = .closed := by
  refine ⟨?_, rfl, nofun, .inl rfl, ⟨rfl, rfl, rfl⟩, switching_asks _ _ rfl, rfl⟩
  unfold State.LinesHold State.Shaped State.NoFall State.Low State.Strike
  decide +kernel

/-- A good frame of gauge values with the pack-fault flag set. -/
def faultData : List Byte := List.replicate 14 0 ++ [1]

theorem witness_WireAttempts_ends :
    let w := swapping .switching (.bay .b) (.slot 23 0)
    let s := wired (switching (.bay .b)) { gaugeJob with bay := .b } 1 .answering
    s.LinesHold ∧ s.link.Agrees ∧ (∃ x, s.link.inFlight = some x ∧ x.phase = .answering ∧ x.job.work = .gauge ∧
        x.job.bay = .b) ∧ (s.bay .b).state = .online ∧ s.swap = some w ∧ faultData.length = 15 ∧
      (faultData.getD 14 0).getLsbD 0 = true ∧ s.AsksAlone w ∧
      ∃ t, exec (.answerFrame (faultData ++ [crc8 faultData])) s = .next t ∧ LossEnds s t w := by
  refine ⟨?_, ⟨rfl, rfl⟩, ⟨_, rfl, rfl, rfl, rfl⟩, rfl, rfl, rfl, by decide, ?_, _, rfl, ?_, nofun, .inl rfl⟩
  · unfold State.LinesHold
    decide +kernel
  · rintro k n ⟨⟩
    decide +kernel
  · decide +kernel

/-- A full store: closed records 1 to 16, unless their marks say otherwise. -/
def fullStore (isOpen pinned : Bool) : ImpactStore :=
  { places := (List.range 16).map (fun i => some { record with sequence := i + 1, isOpen := isOpen, pinned := pinned })
    nextSequence := 17 }

theorem fullStore_opensAt : (fullStore false false).OpensAt 0 := by
  refine .inr ⟨by decide, { record with isOpen := false }, by decide, rfl, rfl, ?_⟩
  intro j hj hne q hq _ _
  have h : ∀ j, j < 16 → j ≠ 0 → ∀ q ∈ (fullStore false false).places.getD j none, 1 < q.sequence := by decide +kernel
  exact h j hj hne q hq

theorem fullStore_opensNone : (fullStore false true).OpensNone := by
  refine .inr fun j hj => ?_
  have h : ∀ j, j < 16 → ∃ q ∈ (fullStore false true).places.getD j none, q.pinned = true := by decide +kernel
  obtain ⟨q, hq, hp⟩ := h j hj
  exact ⟨q, hq, .inl hp⟩

/-- Three stores with fewer than two open records: full, at an end of the counter, and with every record pinned. -/
theorem witness_ImpactsAreRecorded_full :
    let w : ImpactWindow := { windowAt .drop 400 0 ⟨-9000, 4000, 6000⟩ with count := 15 }
    let s := fun u => ({ sampling .impact with impact := u, drop := { (sampling .impact).drop with window := some w } } : State)
    let spent : ImpactStore := { fullStore false false with nextSequence := 4294967296 }
    ((s (fullStore false false)).LinesHold ∧ (s (fullStore false false)).Shaped ∧
        (fullStore false false).openCount = 0 ∧ (fullStore false false).nextSequence ≤ 4294967295 ∧
        (s (fullStore false false)).StoreLimits) ∧
      (fullStore false false).OpensAt 0 ∧ spent.OpensNone ∧ spent.opensAs = 0 ∧ (s spent).StoreLimits ∧
      (fullStore false true).OpensNone ∧ (fullStore false true).openCount = 0 := by
  refine ⟨?_, fullStore_opensAt, .inl (by decide), rfl, ?_, fullStore_opensNone, by decide⟩ <;>
    (try unfold State.LinesHold State.Shaped) <;> unfold State.StoreLimits <;> decide +kernel

/-- The windows of `witness_SensorIsLost_impact` and `witness_SensorPortRestarts_impact` meet such stores. -/
theorem witness_SensorIsLost_full :
    let w : ImpactWindow := windowAt .drop 64 0 ⟨0, 0, 3000⟩
    let s : State := { sampling .impact with
      impact := fullStore false false
      drop := { (sampling .impact).drop with missing := 3, window := some w, episode := some { records := [16], continued := false } } }
    s.LinesHold ∧ s.Shaped ∧ s.drop.sampleDue = some 45 ∧ s.drop.missing = 3 ∧ s.drop.window = some w ∧
      s.drop.state = .impact ∧ s.impact.openCount < 2 ∧ s.impact.OpensAt 0 := by
  refine ⟨?_, ?_, rfl, rfl, rfl, rfl, by decide, fullStore_opensAt⟩ <;> (try unfold State.LinesHold) <;>
    (try unfold State.Shaped) <;> decide +kernel

theorem witness_SensorPortRestarts_full :
    let w : ImpactWindow := windowAt .drop 64 0 ⟨0, 0, 3000⟩
    let i : State := { sampling .impact with
      impact := fullStore false false, drop := { (sampling .impact).drop with window := some w } }
    let s := ask i 0 18 [1]
    s.LinesHold ∧ s.Shaped ∧ s.Takes 0 18 ∧ s.param 0 0 1 = 1 ∧ s.drop.window = some w ∧ s.drop.state = .impact ∧
      s.impact.openCount < 2 ∧ s.impact.OpensAt 0 := by
  refine ⟨?_, ?_, ?_, ?_, rfl, rfl, by decide, fullStore_opensAt⟩ <;> (try unfold State.LinesHold) <;>
    (try unfold State.Shaped) <;> (try unfold State.Takes) <;> decide +kernel

/-- A state whose notice list stands at its places in care memory. -/
def noticing (s : State) (u : NoticeUnit) : State :=
  { s with notices := u, port := { s.port with memory := Memory.write s.port.memory (noticePlace 0) u.area } }

theorem noticing_shows (s : State) (u : NoticeUnit) (h : u.Ordered) (hs : s.SlotsNamed)
    (hm : ∀ j, (h : j < u.entries.length) →
      Memory.readBytes (noticing s u).port.memory (noticePlace ((u.top + j) % 32)) 32 = noticeBytes u.entries[j]) :
    (noticing s u).ListShows := ⟨h, hs, fun _ => hm⟩

theorem fullNotices_ordered : fullNotices.Ordered := by
  unfold NoticeUnit.Ordered Sequenced
  decide +kernel

theorem listing_ordered : (listing 3).Ordered := by
  unfold NoticeUnit.Ordered Sequenced
  decide +kernel

theorem witness_StepKeepsNoticesOrdered_places :
    (noticing queued (listing 3)).ListShows ∧ ∃ t, step (noticing queued (listing 3)) = .next t :=
  ⟨noticing_shows _ _ listing_ordered (slotsNamed_idle _ rfl rfl rfl rfl (by rintro _ ⟨⟩; rfl) rfl) (by decide +kernel),
    _, rfl⟩

theorem witness_NoticeTopWritten_places :
    (noticing present fullNotices).ListShows ∧ (noticing present fullNotices).LinesHold ∧
      (noticing present fullNotices).PortOpen := by
  refine ⟨noticing_shows _ _ fullNotices_ordered (slotsNamed_idle _ rfl rfl rfl rfl (by rintro _ ⟨⟩; rfl) rfl) ?_, ?_, ?_⟩ <;>
    (try unfold State.LinesHold) <;> (try unfold State.PortOpen) <;> decide +kernel

/-- `guarded` in a fall, with its episode, and a command waiting. -/
def fallingNow : State :=
  guarded { sampling .falling with
    pending := [.contactArrival .a]
    drop := { (sampling .falling).drop with
      n := some 64, r := some 0, episode := some { records := [], continued := false } } }

theorem witness_StepKeepsShape_limits :
    let s : State := { storing queued [record, { record with sequence := 2, pinned := true }] with
      bright := { queued.bright with displaySetting := true, display := true }
      power := { queued.power with platform := .run } }
    s.StoreLimits ∧ s.DisplayAgrees ∧ (∃ t, step s = .next t) ∧ fallingNow.FallAgrees ∧ ∃ t, step fallingNow = .next t := by
  refine ⟨?_, rfl, ⟨_, rfl⟩, ⟨?_, nofun, ?_, nofun, nofun, nofun, nofun⟩, _, rfl⟩ <;> (try unfold State.StoreLimits) <;>
    (try unfold State.AllFall) <;> decide +kernel

theorem witness_StepKeepsShape_latch :
    let s : State :=
      { releasing (swapping .waiting .dc .button) .opened none with pending := [.latchSensorChange .a .closed] }
    s.LatchAgrees ∧ (s.bay .a).latch = .opened ∧ ∃ t, step s = .next t := by
  refine ⟨⟨releaseAgrees_releasing _ _ _ rfl, fun b h => ?_, ?_⟩, rfl, _, rfl⟩
  · cases b
    · exact ⟨rfl, by decide, _, rfl, rfl, .inr rfl⟩
    · revert h
      decide
  · rintro w ⟨⟩
    exact ⟨fun _ => by decide, nofun⟩

theorem witness_DisplayAndPlatform_held :
    let s := ask { idle with bright := { idle.bright with displaySetting := true } } 0 8 [1]
    s.LinesHold ∧ s.Takes 0 8 ∧ s.param 0 0 1 ≤ 1 ∧ s.DisplayAgrees ∧
      decide (s.param 0 0 1 = 1) = s.bright.displaySetting ∧ (ask idle 0 16 [2]).DisplayAgrees := by
  unfold State.LinesHold State.Takes State.DisplayAgrees
  decide +kernel

/-! ### Witnesses of the clauses on CARE_CONTROL and read-only words, ports that are none, and polls of a barred bay -/

theorem witness_WriteTurnedAway_control :
    BadControl 4 2 ∧ BadControl 5 1 ∧ BadControl 7 255 ∧ ¬ BadControl 4 1 ∧ ¬ BadControl 8 1 ∧ present.LinesHold ∧
      present.port.held = false ∧ (4 ≤ (0x0004 : Addr).toNat ∧ (0x0004 : Addr).toNat + ([0, 0, 0, 0] : List Byte).length ≤ 8) ∧
      ∀ b ∈ ([0, 0, 0, 0] : List Byte), b = 0 := by
  unfold BadControl State.LinesHold
  decide +kernel

theorem witness_WordOperationsTurnedAway_read_only :
    let s := ask present 23 1 []
    s.LinesHold ∧ s.pins.hostPresent = true ∧ s.port.held = false ∧
      (s.Forbids (0x0000 : Addr).toNat ∧ BitVec.ofNat 32 (s.peekWord 0x0000) = 0x01010F72) ∧
      (s.Forbids (0x01FC : Addr).toNat ∧ (0x01FC : Addr).toNat % 4 = 0 ∧ BitVec.ofNat 32 (s.peekWord 0x01FC) = 0) ∧
      (s.Forbids (0x0FFC : Addr).toNat ∧ (0x0FFC : Addr).toNat % 4 = 0) ∧
      (s.Forbids (0x07C4 : Addr).toNat ∧ BitVec.ofNat 32 (s.peekWord 0x07C4) = 1) ∧
      1 < (2 : Word).toNat ∧ BitVec.ofNat 32 (s.peekWord (0x0004 : Addr).toNat) = 0 := by
  unfold State.LinesHold State.Forbids
  decide +kernel

theorem witness_HoldPlaces_relatching :
    let w := swapping .relatching .dc .button
    let s := ask (releasing w .closing (some 1600)) 0 11 [0]
    s.LinesHold ∧ s.Shaped ∧ s.Takes 0 11 ∧ s.param 0 0 1 = holdKindCode (.latch .a) ∧
      s.holds.inForce (.latch .a) = false ∧ s.swap = some w ∧ w.bay = .a ∧ w.phase = .relatching ∧
      (s.bay .a).latch = .closing := by
  unfold State.LinesHold State.Shaped State.Takes
  decide +kernel

theorem witness_HoldStopsRelease_latches :
    let w := swapping .switching .dc .button
    let s := fun l => ask (releasing w l (some 1600)) 0 11 [0]
    (s .closing).LinesHold ∧ (s .closing).Takes 0 11 ∧ (s .closing).param 0 0 1 = holdKindCode (.latch .a) ∧
      (s .closing).holds.inForce (.latch .a) = false ∧ (s .closing).swap = some w ∧ ¬ (s .closing).latchedFor w ∧
      (s .stuck).LinesHold ∧ (s .stuck).Takes 0 11 ∧ (s .stuck).latchedFor w ∧ (s .stuck).link.Agrees ∧
      (s .stuck).ReleaseAgrees ∧ (s .stuck).slotOwner 0 = ownerReady := by
  refine ⟨?_, ?_, ?_, ?_, rfl, ?_, ?_, ?_, .inr rfl, ⟨rfl, rfl, rfl⟩, releaseAgrees_releasing _ _ _ rfl, ?_⟩ <;>
    (try unfold State.LinesHold) <;> (try unfold State.Takes) <;> (try unfold State.latchedFor) <;> decide +kernel

/-- A PORT_RESET that names neither port. -/
theorem witness_SensorPortRestarts_no_port :
    (ask idle 0 18 [2]).LinesHold ∧ (ask idle 0 18 [2]).Shaped ∧ (ask idle 0 18 [2]).Takes 0 18 ∧
      1 < (ask idle 0 18 [2]).param 0 0 1 ∧ (ask idle 0 18 [255]).Takes 0 18 ∧ 1 < (ask idle 0 18 [255]).param 0 0 1 := by
  unfold State.LinesHold State.Shaped State.Takes
  decide +kernel

theorem witness_PackLinkRestarts_no_port_and_choice :
    let j : Job := { gaugeJob with work := .identFull [], bay := .b, order := 1 }
    let s : State := { relinking with link := { relinking.link with waiting := [gaugeJob, j] } }
    ((ask idle 0 18 [2]).Takes 0 18 ∧ 1 < (ask idle 0 18 [2]).param 0 0 1 ∧ (ask idle 0 18 [2]).link.Agrees ∧
        (ask idle 0 18 [2]).link.SlotsOk) ∧
      s.LinesHold ∧ s.Shaped ∧ s.link.Agrees ∧ s.link.SlotsOk ∧ s.link.resetTimer = some 20 ∧
      j ∈ s.link.waiting ∧ ∀ k ∈ s.link.waiting, k ≠ j → j.sooner k = true := by
  refine ⟨⟨?_, ?_, ⟨rfl, rfl, rfl⟩, slotsOk_nil rfl⟩, ?_, ?_, ⟨rfl, rfl⟩, ?_, rfl, ?_, ?_⟩ <;>
    (try unfold State.LinesHold) <;> (try unfold State.Shaped) <;> (try unfold State.Takes) <;> try decide +kernel
  intro j hj
  have : j = gaugeJob ∨ j = { gaugeJob with work := .identFull [], bay := .b, order := 1 } := by
    simpa [relinking, PackLink.jobs, PackLink.flying, withSlot, idle, State.reset] using hj
  rcases this with rfl | rfl <;> trivial

theorem witness_WireAttempts_barred :
    let s := fun (a : Nat) (p : WirePhase) => wired barredA gaugeJob a p
    ((s 1 .answering).LinesHold ∧ (s 1 .answering).link.Agrees ∧ ((s 1 .answering).bay .a).state = .barred ∧
        ∃ x, (s 1 .answering).link.inFlight = some x ∧ x.job.work = .gauge ∧ x.job.bay = .a ∧
          WireEnd x (.answerFrame (faultData ++ [crc8 faultData])) .good (some faultData)) ∧
      (∃ x, (s 2 .answering).link.inFlight = some x ∧ WireEnd x .answerFrameGapEnd .linkError none) ∧
      ∃ x, (s 1 (.window 84)).link.inFlight = some x ∧ WireEnd x .answerWindowExpiry .noAnswer none := by
  refine ⟨⟨?_, ⟨rfl, rfl⟩, rfl, _, rfl, rfl, rfl, wireEnd_good rfl ?_ ?_⟩, ⟨_, rfl, .gap rfl rfl⟩, _, rfl, .silent 84 rfl⟩ <;>
    (try unfold State.LinesHold) <;> decide +kernel

end Sys2Proof.Tests
end

section
/-! SUPPORT. The end of a command whose work changes the power unit: the lines follow their levels, and the sections are
rewritten with what they show. -/

namespace Sys2Proof.Machine.PowerSources

/-! ### What the end of a command leaves in each part -/

section
variable (s a : State) (w : Rewrites)

@[simp] theorem finished_acceptanceOf (k : Nat) :
    (State.refresh s w a.driveLines).acceptanceOf k = a.acceptanceOf k := rfl
@[simp] theorem finished_bay (b : Bay) : (State.refresh s w a.driveLines).bay b = a.bay b := rfl
@[simp] theorem finished_storageGuard :
    (State.refresh s w a.driveLines).holds.storageGuard = a.storageGuardLevel := rfl
@[simp] theorem finished_power :
    (State.refresh s w a.driveLines).power = { a.power with hibernate := a.hibernateLevel } := rfl

theorem finished_news_level : (State.refresh s w a.driveLines).notices.news =
    if a.hibernateLevel = a.power.hibernate then a.notices.news else a.notices.news ||| newsPower := rfl

end

/-- The news bits at the end of a command that leaves HIBERNATE_REQUEST at its level, are those that its work set. -/
theorem finished_news_same {s a : State} (w : Rewrites) (hs : s.LinesHold)
    (hf : a.power.hibernate = s.power.hibernate) (hl : a.hibernateLevel = s.hibernateLevel) :
    (State.refresh s w a.driveLines).notices.news = a.notices.news := by
  obtain ⟨-, -, hib⟩ := hs
  rw [finished_news_level, if_pos (by rw [hl, hf, hib])]

/-- The frame of a command, from the frame of its work: a line that the frame leaves out stays where its level stays. -/
theorem kept_finished {L L' : List Part} {s a : State} (w : Rewrites) (hs : s.LinesHold) (h : Kept L s a) (hl : L ⊆ L')
    (hf : a.power.hibernate = s.power.hibernate)
    (hib : Part.hibernate ∈ L' ∧ Part.news ∈ L' ∧ Part.attention ∈ L' ∨ a.hibernateLevel = s.hibernateLevel)
    (guard : Part.storageGuard ∉ L' → a.storageGuardLevel = s.storageGuardLevel)
    (attention : Part.attention ∉ L' → a.attentionLevel = s.attentionLevel) :
    Kept L' s (State.refresh s w a.driveLines) := by
  intro p hp
  have key := h p (fun hm => hp (hl hm))
  have level (hp' : p = .hibernate ∨ p = .news ∨ p = .attention) : a.hibernateLevel = s.hibernateLevel := by
    rcases hib with ⟨h1, h2, h3⟩ | hib
    · rcases hp' with rfl | rfl | rfl <;> contradiction
    · exact hib
  cases p with
  | news => exact (finished_news_same w hs hf (level (by simp))).trans key
  | hibernate => exact (level (by simp)).trans hs.2.2.symm
  | storageGuard => exact (guard hp).trans hs.2.1.symm
  | attention =>
    have hn := finished_news_same w hs hf (level (by simp))
    show (((State.refresh s w a.driveLines).notices.news &&& a.notices.mask.setWidth 8 != 0) && a.pins.hostPresent &&
      (a.power.platform != .off)) = s.notices.attention
    rw [hn, hs.1]
    exact attention hp
  | power => exact key
  | holds => exact key
  | noticeList => exact key
  | bay b => exact key
  | _ => exact key

/-- The bytes that a command leaves alone, from those that its work leaves alone: a section is rewritten only with what it
shows. -/
theorem bytesKept_finished {A A' : List Area} {s a : State} (w : Rewrites) (hb : BytesKept A s a) (hl : A ⊆ A')
    (hw : w.all = false ∧ w.places = false ∧ w.drop = false) (hd : a.drop = s.drop)
    (sources : w.sources = true ∨ sourcesBody s.power ≠ sourcesBody a.driveLines.power → sourcesArea ∈ A')
    (bays : ∀ b, a.bay b ≠ s.bay b ∨ a.swapOf b ≠ s.swapOf b → bayArea b ∈ A')
    (bright : w.bright = true ∨ s.bright ≠ a.bright → brightArea ∈ A')
    (holds : a.driveLines.holds ≠ s.holds → holdArea ∈ A') :
    BytesKept A' s (State.refresh s w a.driveLines) := by
  intro x hx
  obtain ⟨hall, hplaces, hdrop⟩ := hw
  rw [← hb.mono hl x hx]
  show Memory.read (if a.driveLines.port.careReset then a.driveLines.port.memory else refreshed s w a.driveLines) x = _
  have bay (b : Bay) (hc : bayChanged s a.driveLines b = true) : bayArea b ∈ A' := by
    refine bays b ?_
    by_contra hn
    push Not at hn
    simp [bayChanged, hn.1, hn.2] at hc
  split
  · rfl
  unfold refreshed
  simp only [hall, hplaces, hdrop, Bool.false_or, rewriteAllPlaces, Bool.false_eq_true, if_false]
  rw [read_rewriteTimes _ _ _ _ _ _ (by decide), read_rewriteIf _ _ _ _ _ _ (by decide),
    read_rewriteIf _ _ _ _ _ _ (by decide), read_rewriteIf _ _ _ _ _ _ (by decide),
    read_rewriteIf _ _ _ _ _ _ (by decide), read_rewriteIf _ _ _ _ _ _ (by decide)]
  · rfl
  · intro hc
    exact hx _ (sources (by simpa only [Bool.or_eq_true, bne_iff_ne] using hc))
  · intro hc
    exact hx _ (bay .a hc)
  · intro hc
    exact hx _ (bay .b hc)
  · intro hc
    exact hx _ (bright (by simpa only [Bool.or_eq_true, bne_iff_ne, State.driveLines_bright] using hc))
  · intro hc
    simp [dropChanged, hd] at hc
  · intro hc
    refine hx _ (holds fun he => ?_)
    rw [he, holdRewrites_same] at hc
    exact hc rfl

theorem swapOf_congr {s a : State} (h : a.swap = s.swap) (b : Bay) : a.swapOf b = s.swapOf b := by
  simp only [State.swapOf, h]

/-- The sections of the bays show nothing new after work that leaves the bays and the swap context alone. -/
theorem shown_bays_same {L : List Part} {s a : State} (h : Kept L s a) (hb : ∀ b, Part.bay b ∉ L) (hw : Part.swap ∉ L)
    (b : Bay) : ¬ (a.bay b ≠ s.bay b ∨ a.swapOf b ≠ s.swapOf b) := by
  rintro (hn | hn)
  · exact hn (h _ (hb b))
  · exact hn (swapOf_congr (h _ hw) b)

/-! ### Bytes that a frame leaves alone -/

theorem readBytes_of_bytesKept {A : List Area} {s t : State} (h : BytesKept A s t) {x n : Nat}
    (hA : ∀ r ∈ A, r.1 + r.2 ≤ x ∨ x + n ≤ r.1) :
    Memory.readBytes t.port.memory x n = Memory.readBytes s.port.memory x n :=
  Memory.readBytes_congr fun y hy hy' => h y fun r hr => by have := hA r hr; omega

/-- A slot lies outside the areas of a frame. -/
def SlotApart (A : List Area) (k : Nat) : Prop := ∀ r ∈ A, r.1 + r.2 ≤ slotBase k ∨ slotBase k + 64 ≤ r.1

theorem slotField_of_bytesKept {A : List Area} {s t : State} {k : Nat} (h : BytesKept A s t) (hA : SlotApart A k)
    {o n : Nat} (ho : o + n ≤ 64) : t.slotField k o n = s.slotField k o n := by
  unfold State.slotField Memory.readNat
  rw [readBytes_of_bytesKept h fun r hr => by have := hA r hr; omega]

theorem slotByte_of_bytesKept {A : List Area} {s t : State} {k : Nat} (h : BytesKept A s t) (hA : SlotApart A k)
    {o : Nat} (ho : o < 64) : t.slotByte k o = s.slotByte k o := by
  unfold State.slotByte
  rw [h _ fun r hr => by have := hA r hr; omega]

theorem slotOwner_of_bytesKept {A : List Area} {s t : State} {k : Nat} (h : BytesKept A s t) (hA : SlotApart A k) :
    t.slotOwner k = s.slotOwner k := slotField_of_bytesKept h hA (by decide)

theorem answerNews_of_bytesKept {A : List Area} {s t : State} {k : Nat} (h : BytesKept A s t) (hA : SlotApart A k) :
    t.answerNews k = s.answerNews k := by
  unfold State.answerNews State.slotFlags
  rw [slotByte_of_bytesKept h hA (by decide)]

/-- An answered slot stays answered while its bytes and the uptime stay (R182). -/
theorem answered_of_bytesKept {A : List Area} {s t : State} {k : Nat} {status : Status} {reason : Reason}
    {data : List Byte} (h : BytesKept A s t) (hA : SlotApart A k) (hu : t.uptime = s.uptime)
    (ha : s.Answered k status reason data) : t.Answered k status reason data := by
  obtain ⟨howner, hstatus, hreason, hdata, hup⟩ := ha
  refine ⟨?_, ?_, ?_, ?_, ?_⟩
  · exact (slotOwner_of_bytesKept h hA).trans howner
  · exact (slotByte_of_bytesKept h hA (by decide)).trans hstatus
  · exact (slotByte_of_bytesKept h hA (by decide)).trans hreason
  · exact (readBytes_of_bytesKept h fun r hr => by have := hA r hr; omega).trans hdata
  · rw [slotField_of_bytesKept h hA (by decide), hup, hu]

/-- The live page is all that the end of a command writes (R177). -/
theorem finished_live (s a : State) {w : Rewrites} (hw : w.places = false) :
    BytesKept [liveArea] a (State.refresh s w a.driveLines) := by
  intro x hx
  have hx := hx liveArea (by simp)
  show Memory.read (if a.driveLines.port.careReset then a.driveLines.port.memory else refreshed s w a.driveLines) x = _
  split
  · rfl
  unfold refreshed
  simp only [hw, rewriteAllPlaces, Bool.false_eq_true, if_false]
  simp only [liveArea] at hx
  rw [read_rewriteTimes _ _ _ _ _ _ (by decide) (fun _ => by omega),
    read_rewriteIf _ _ _ _ _ _ (by decide) (fun _ => by omega),
    read_rewriteIf _ _ _ _ _ _ (by decide) (fun _ => by omega),
    read_rewriteIf _ _ _ _ _ _ (by decide) (fun _ => by simp only [bayBase]; omega),
    read_rewriteIf _ _ _ _ _ _ (by decide) (fun _ => by simp only [bayBase]; omega),
    read_rewriteIf _ _ _ _ _ _ (by decide) (fun _ => by omega), State.driveLines_port]

theorem slotApart_live (k : Nat) : SlotApart [liveArea] k := by
  simp [SlotApart, liveArea, slotBase]

/-! ### Requests that are taken -/

theorem takes_lt {s : State} {k kind : Nat} (h : s.Takes k kind) : k < 24 := by
  obtain ⟨-, -, -, hk, -, -⟩ := h
  exact hk

theorem take_of_takes {s : State} {k kind : Nat} (h : s.Takes k kind) (work : State → Nat → State) :
    s.take kind work = work s.popIntake k := by
  obtain ⟨hstart, hcare, hhead, -, hkind, hflags⟩ := h
  have hold : s.oldest = some k := by simp [State.oldest, State.dispatching, hstart, hcare, hhead]
  have hgood : flagsBad (s.slotFlags k) = false := by simpa [flagsBad] using hflags
  simp [State.take, hold, hkind, hgood]

/-- An answer that the work of a request writes stands at the end of the command, with the frame of the whole (R182). -/
theorem answeredBut_finished {parts : List Part} {areas : List Area} {s a : State} (w : Rewrites) {k : Nat} (hk : k < 24)
    {status : Status} {reason : Reason} {data : List Byte} (hw : w.places = false)
    (hi : a.port.intake = s.port.intake.tail)
    (hkept : Kept (answerParts ++ parts) s (State.refresh s w (a.answer k status reason data).driveLines))
    (hbytes : BytesKept (answerAreas k ++ areas) s (State.refresh s w (a.answer k status reason data).driveLines)) :
    AnsweredBut parts areas s (State.refresh s w (a.answer k status reason data).driveLines) k status reason data := by
  refine ⟨answered_of_bytesKept (finished_live s _ hw) (slotApart_live k) rfl (answer_answered a k _ _ _ hk), ?_, hkept,
    hbytes⟩
  have hsame : (a.answer k status reason data).port.intake = a.port.intake :=
    answer_kept a k status reason data .intake (by simp)
  exact hsame.trans hi

/-- A request whose work is an answer and nothing else: the slot is answered, and nothing else changes (R180, R182). -/
theorem answered_of_takes {s : State} {c : Instr} {k kind : Nat} {work : State → Nat → State} {status : Status}
    {r : Reason} {data : List Byte} (hs : s.LinesHold) (ht : s.Takes k kind) (hc : exec c s = finish s (s.take kind work))
    (hwork : work s.popIntake k = s.popIntake.answer k status r data) :
    ∃ t, exec c s = .next t ∧ t.notices.news = s.notices.news ||| s.answerNews k ∧
      AnsweredBut [] [] s t k status r data := by
  rw [hc, take_of_takes ht, hwork]
  have hk : k < 24 := takes_lt ht
  have hkept := (popIntake_kept s).append (answer_kept s.popIntake k status r data)
  refine ⟨_, rfl, ?_, answeredBut_finished {} hk rfl rfl ?_ ?_⟩
  · rw [finished_news {} hs hkept (by simp) (by simp), answer_news]
    rfl
  · exact Kept.finished {} hs hkept (by simp) (by simp) _ (by simp [answerParts]) (by simp) (by simp [answerParts])
  · have hbytes : BytesKept (answerAreas k) s (s.popIntake.answer k status r data) :=
      answer_bytesKept s.popIntake k status r data
    exact BytesKept.finished {} hs hkept hbytes (by simp) ⟨rfl, rfl⟩ _ (by simp) (by simp) (by simp) (by simp) (by simp)
      (by simp) (by simp)

end Sys2Proof.Machine.PowerSources
end

section
/-! SUPPORT. SET_DISPLAY and SET_PLATFORM (R61 to R63, R103, R121 to R123). -/

namespace Sys2Proof.Machine.PowerSources

/-! ### The display -/

/-- The display worked out from a new setting (R121, R123). -/
theorem workDisplay_setting (u : BrightUnit) (on : Bool) (p : Platform) :
    { u with displaySetting := on }.workDisplay p = displayed u on p := by
  unfold BrightUnit.workDisplay displayed
  by_cases hon : on = true ∧ p = .run
  · obtain ⟨rfl, rfl⟩ := hon
    cases hd : u.display <;> simp [dutyOf]
  · have hoff : (on && p == .run) = false := by simpa using hon
    cases hd : u.display <;> simp [hon, hoff]

theorem displayed_displaySetting (u : BrightUnit) (on : Bool) (p : Platform) :
    (displayed u on p).displaySetting = on := by
  unfold displayed
  split <;> rfl

theorem displayed_display (u : BrightUnit) (on : Bool) (p : Platform) :
    (displayed u on p).display = (on && p == .run) := by
  unfold displayed
  split
  · exact Eq.symm ‹_›
  · rfl

/-- A display that agrees with its setting and the platform state stays as it is (R121). -/
theorem displayed_same {s : State} (h : s.DisplayAgrees) :
    displayed s.bright s.bright.displaySetting s.power.platform = s.bright := by
  unfold displayed
  rw [if_pos h.symm]

/-! ### SET_DISPLAY -/

/-- The answer data of a SET_DISPLAY that is taken (R122). -/
def displayAnswer (s : State) (k : Nat) : List Byte :=
  [byte (s.param k 0 1), byte (if s.param k 0 1 = 1 ∧ s.power.platform = .run then 1 else 0),
    byte (platformCode s.power.platform)]

/-- The state once the display setting is taken, with the display worked out (R121, R122). -/
def displayTaken (s : State) (k : Nat) : State :=
  { s with bright := displayed s.bright (decide (s.param k 0 1 = 1)) s.power.platform }

theorem displayTaken_kept (s : State) (k : Nat) : Kept [.bright] s (displayTaken s k) := by
  intro p hp
  cases p <;> first | rfl | simp at hp

theorem workSetDisplay_bad {s : State} {k : Nat} (h : 1 < s.param k 0 1) :
    workSetDisplay s k = s.answer k .refused .badParam [] := by
  unfold workSetDisplay
  rw [if_pos h]
  rfl

theorem workSetDisplay_good {s : State} {k : Nat} (h : s.param k 0 1 ≤ 1) :
    workSetDisplay s k = (displayTaken s k).answer k .done .none (displayAnswer s k) := by
  have hto : s.displayTo (decide (s.param k 0 1 = 1)) = displayTaken s k := by
    rw [State.displayTo, workDisplay_setting, displayTaken]
  have hdata : (displayTaken s k).displayData = displayAnswer s k := by
    simp only [State.displayData, displayTaken, displayed_displaySetting, displayed_display, displayAnswer]
    obtain h0 | h1 : s.param k 0 1 = 0 ∨ s.param k 0 1 = 1 := by omega
    · simp [h0, flagBit]
    · simp [h1, flagBit]
  unfold workSetDisplay
  rw [if_neg (by omega), hto, hdata]
  rfl

theorem exec_setDisplay_of_takes {s : State} {k : Nat} (hs : s.LinesHold) (ht : s.Takes k 8) (hp : s.param k 0 1 ≤ 1) :
    ∃ t, exec .setDisplay s = .next t ∧
      t.bright = displayed s.bright (decide (s.param k 0 1 = 1)) s.power.platform ∧
      t.notices.news = s.notices.news ||| s.answerNews k ∧
      AnsweredBut [.bright] [brightArea] s t k .done .none (displayAnswer s k) := by
  have hk : k < 24 := takes_lt ht
  have hexec : exec .setDisplay s = finish s (s.take 8 workSetDisplay) := rfl
  have hwork : workSetDisplay s.popIntake k = (displayTaken s.popIntake k).answer k .done .none (displayAnswer s k) :=
    workSetDisplay_good (s := s.popIntake) hp
  have hanswer := answer_kept (displayTaken s.popIntake k) k .done .none (displayAnswer s k)
  have hkept := ((popIntake_kept s).append (displayTaken_kept s.popIntake k)).append hanswer
  rw [hexec, take_of_takes ht, hwork]
  refine ⟨_, rfl, hanswer .bright (by simp), ?_, answeredBut_finished {} hk rfl rfl ?_ ?_⟩
  · rw [finished_news {} hs hkept (by simp) (by simp), answer_news]
    rfl
  · exact Kept.finished {} hs hkept (by simp) (by simp) _ (by simp [answerParts]) (by simp) (by simp [answerParts])
  · have hbytes : BytesKept (answerAreas k) s ((displayTaken s.popIntake k).answer k .done .none (displayAnswer s k)) :=
      answer_bytesKept (displayTaken s.popIntake k) k .done .none (displayAnswer s k)
    exact BytesKept.finished {} hs hkept hbytes (by simp) ⟨rfl, rfl⟩ _ (by simp) (by simp) (by simp) (by simp) (by simp)
      (by simp) (by simp)

/-- A SET_DISPLAY of the setting already held changes nothing but its slot (R121, R122). -/
theorem exec_setDisplay_of_held {s : State} {k : Nat} (hs : s.LinesHold) (ht : s.Takes k 8) (hp : s.param k 0 1 ≤ 1)
    (hagrees : s.DisplayAgrees) (hheld : decide (s.param k 0 1 = 1) = s.bright.displaySetting) :
    ∃ t, exec .setDisplay s = .next t ∧ AnsweredBut [] [] s t k .done .none (displayAnswer s k) := by
  have hsame : displayTaken s.popIntake k = s.popIntake := by
    have hbright : displayed s.bright (decide (s.param k 0 1 = 1)) s.power.platform = s.bright := by
      rw [hheld, displayed_same hagrees]
    exact congrArg (fun u => { s.popIntake with bright := u }) hbright
  have hwork : workSetDisplay s.popIntake k = s.popIntake.answer k .done .none (displayAnswer s k) := by
    rw [workSetDisplay_good (s := s.popIntake) hp, hsame]
    rfl
  obtain ⟨t, he, -, hanswered⟩ := answered_of_takes (c := .setDisplay) hs ht rfl hwork
  exact ⟨t, he, hanswered⟩

/-! ### SET_PLATFORM -/

theorem workSetPlatform_bad {s : State} {k : Nat} (h : 2 < s.param k 0 1) :
    workSetPlatform s k = s.answer k .refused .badParam [] := by
  unfold workSetPlatform
  have : platformOfCode (s.param k 0 1) = none := by
    unfold platformOfCode
    split <;> first | omega | rfl
  rw [this]
  rfl

theorem platformOfCode_code (p : Platform) : platformOfCode (platformCode p) = some p := by cases p <;> rfl

/-- The state once the platform state is taken, with the display worked out (R62, R121). -/
def platformTaken (s : State) (p : Platform) : State :=
  { s with
    power := { s.power with platform := p }
    bright := displayed s.bright s.bright.displaySetting p
    notices := { s.notices with
      news := s.notices.news ||| (if p = s.power.platform then 0 else newsPower) } }

theorem platformTo_eq {s : State} (h : s.DisplayAgrees) (p : Platform) : s.platformTo p = platformTaken s p := by
  unfold State.platformTo platformTaken
  split
  · rename_i hp
    subst hp
    rw [displayed_same h]
    simp
  · rw [← workDisplay_setting]
    rfl

theorem platformTaken_kept (s : State) (p : Platform) : Kept [.power, .bright, .news] s (platformTaken s p) := by
  intro q hq
  cases q <;> first | rfl | simp at hq

theorem workSetPlatform_good {s : State} {k : Nat} {p : Platform} (hd : s.DisplayAgrees)
    (h : s.param k 0 1 = platformCode p) :
    workSetPlatform s k = (platformTaken s p).answer k .done .none
      [byte (platformCode s.power.platform), byte (platformCode p)] := by
  unfold workSetPlatform
  rw [h, platformOfCode_code]
  show (s.platformTo p).done _ _ = _
  rw [platformTo_eq hd]
  rfl

/-- A change of HIBERNATE_REQUEST with a change of the platform state alone sets no news bit of its own (R61, R63). -/
theorem platform_news {s a : State} {p : Platform} (w : Rewrites) (hs : s.LinesHold)
    (ha : a.power = { s.power with platform := p }) {bits : Byte}
    (hn : a.notices.news = s.notices.news ||| (if p = s.power.platform then 0 else newsPower) ||| bits) :
    (State.refresh s w a.driveLines).notices.news =
      s.notices.news ||| bits ||| (if p = s.power.platform then 0 else newsPower) := by
  have hor : a.notices.news = s.notices.news ||| bits ||| (if p = s.power.platform then 0 else newsPower) := by
    rw [hn, BitVec.or_assoc, BitVec.or_assoc, BitVec.or_comm bits]
  rw [finished_news_level, hor]
  split
  · rfl
  · rename_i hlevel
    have hp : p ≠ s.power.platform := by
      rintro rfl
      apply hlevel
      simp only [State.hibernateLevel, ha]
      exact hs.2.2.symm
    rw [if_neg hp, BitVec.or_assoc, BitVec.or_self]

theorem exec_setPlatform_of_takes {s : State} {k : Nat} {p : Platform} (hs : s.LinesHold) (ht : s.Takes k 16)
    (hd : s.DisplayAgrees) (hp : s.param k 0 1 = platformCode p) :
    ∃ t, exec .setPlatform s = .next t ∧
      t.power = { s.power with platform := p, hibernate := s.power.critical && (p != .off) } ∧
      t.holds.storageGuard = (s.holds.inForce .storage && (p != .off)) ∧
      t.bright = displayed s.bright s.bright.displaySetting p ∧
      t.notices.news = s.notices.news ||| s.answerNews k ||| (if p = s.power.platform then 0 else newsPower) ∧
      AnsweredBut [.power, .hibernate, .storageGuard, .bright] [sourcesArea, holdArea, brightArea] s t k .done .none
        [byte (platformCode s.power.platform), byte (platformCode p)] := by
  have hk : k < 24 := takes_lt ht
  have hexec : exec .setPlatform s = finish s (s.take 16 workSetPlatform) := rfl
  have hwork : workSetPlatform s.popIntake k = (platformTaken s.popIntake p).answer k .done .none
      [byte (platformCode s.power.platform), byte (platformCode p)] :=
    workSetPlatform_good (s := s.popIntake) hd hp
  rw [hexec, take_of_takes ht, hwork]
  generalize [byte (platformCode s.power.platform), byte (platformCode p)] = data
  have hanswer := answer_kept (platformTaken s.popIntake p) k .done .none data
  have hkept := ((popIntake_kept s).append (platformTaken_kept s.popIntake p)).append hanswer
  have hpower : ((platformTaken s.popIntake p).answer k .done .none data).power = { s.power with platform := p } :=
    powerUnit_ext (hanswer .power (by simp)) (hanswer .hibernate (by simp))
  have hholds : ((platformTaken s.popIntake p).answer k .done .none data).holds.entries = s.holds.entries :=
    hanswer .holds (by simp)
  refine ⟨_, rfl, ?_, ?_, hanswer .bright (by simp), platform_news {} hs hpower ?_,
    answeredBut_finished {} hk rfl rfl ?_ ?_⟩
  · rw [finished_power, State.hibernateLevel, hpower]
    rfl
  · rw [finished_storageGuard, State.storageGuardLevel, HoldSet.inForce, HoldSet.count, hpower, hholds]
    rfl
  · rw [answer_news]
    rfl
  · exact kept_finished {} hs hkept (by simp [answerParts]) (hkept .hibernate (by simp)) (.inl (by simp [answerParts]))
      (by simp) (by simp [answerParts])
  · have hbytes : BytesKept (answerAreas k) s ((platformTaken s.popIntake p).answer k .done .none data) :=
      answer_bytesKept (platformTaken s.popIntake p) k .done .none data
    exact bytesKept_finished {} hbytes (by simp) ⟨rfl, rfl, rfl⟩ (hkept .drop (by simp)) (by simp)
      (fun b hb => absurd hb (shown_bays_same hkept (by simp) (by simp) b)) (by simp) (by simp)

/-- Settles O30: each request takes its value and answers, or is refused for a value that names no setting. -/
theorem displayAndPlatform : Obligations.DisplayAndPlatform := by
  intro k s hs
  refine ⟨fun ht hbad => ?_, fun ht hgood => ?_, fun ht hbad => ?_, fun ht hagrees p hp => ?_⟩
  · exact answered_of_takes (c := .setDisplay) hs ht rfl (workSetDisplay_bad hbad)
  · obtain ⟨t, he, hbright, hnews, hanswered⟩ := exec_setDisplay_of_takes hs ht hgood
    refine ⟨t, he, hbright, hnews, hanswered, fun hagrees hheld => ?_⟩
    obtain ⟨t', he', hanswered'⟩ := exec_setDisplay_of_held hs ht hgood hagrees hheld
    rw [he] at he'
    cases he'
    exact hanswered'
  · exact answered_of_takes (c := .setPlatform) hs ht rfl (workSetPlatform_bad hbad)
  · exact exec_setPlatform_of_takes hs ht hagrees hp

end Sys2Proof.Machine.PowerSources
end

section
/-! SUPPORT. DC_DEBOUNCE_EXPIRY at a state whose NOTICE_BOTTOM is out of range (R49, R85, R188). -/

namespace Sys2Proof.Machine.PowerSources

/-- A release of bay A by its button, in SWITCHING, that DC carries (R69, R79). -/
def dcRelease : SwapContext :=
  grantContext .a .button .dc 1440 45000 0

/-- NOTICE_BOTTOM stands at 32, one above the last index of the list, when the DC state is about to become ABSENT and
the carrier of the release with it: the notice of the release's end goes to an entry place above the notice list. -/
def bottomOutOfRange : State :=
  { State.reset with
    notices := { State.reset.notices with bottom := 32 }
    bayA := { BayContext.powerOn with state := .releasing }
    swap := some dcRelease
    power := { State.reset.power with dc := some .c45, debounce := some { timer := 0, level := false } } }

/-- The state after the debounce expiry. -/
def bottomOutOfRangeAfter : State :=
  State.refresh bottomOutOfRange {} ((bottomOutOfRange.reach 0).dcLeaves).driveLines

theorem bottomOutOfRange_lossEnds : LossEnds bottomOutOfRange bottomOutOfRangeAfter dcRelease :=
  ⟨by decide +kernel, by decide, .inl rfl⟩

/-- The kind byte of the notice RELEASE_REFUSED stands in the first impact store place. -/
theorem bottomOutOfRange_written :
    Memory.read bottomOutOfRangeAfter.port.memory 0x0C02 ≠ Memory.read bottomOutOfRange.port.memory 0x0C02 := by
  decide +kernel

/-- Refutes O52: nothing in its hypotheses keeps NOTICE_BOTTOM below 32, so the notice of a release that ends at once may
be written outside the notice list, where the statement's frame lets no byte change. -/
theorem not_adapterAndRail : ¬ Obligations.AdapterAndRail := by
  intro h
  obtain ⟨-, -, expiry⟩ := h bottomOutOfRange ⟨rfl, rfl, rfl⟩
  obtain ⟨-, -, carried⟩ := expiry .c45 { timer := 0, level := false } rfl
  obtain ⟨t, ht, -, -, -, ends⟩ := carried rfl dcRelease rfl rfl rfl rfl
  obtain rfl : bottomOutOfRangeAfter = t := Host.Outcome.next.inj ht
  have asks : bottomOutOfRange.AsksAlone dcRelease := fun k n hk => by cases hk
  obtain ⟨-, -, -, -, -, -, bytes⟩ := ends bottomOutOfRange_lossEnds ⟨rfl, rfl, rfl⟩ asks
  exact bottomOutOfRange_written (bytes 0x0C02 (by decide))

end Sys2Proof.Machine.PowerSources
end

section
/-! SUPPORT. The carry check (R65, R66) and BAY_RELEASE (R76, R79). -/

namespace Sys2Proof.Machine.PowerSources

/-! ### The carry check -/

theorem mayCarry_eq (c : BayContext) : c.mayCarry = readyToCarry c := rfl

theorem maxDischarge_eq (c : BayContext) : c.maxDischarge = ratedDischarge c := rfl

theorem dcCarries_iff (s : State) : s.power.dcCarries = true ↔ s.power.dc.isSome ∧ loadNeed s ≤ s.power.dcRating := by
  rw [PowerUnit.dcCarries, Bool.and_eq_true, decide_eq_true_eq]
  rfl

theorem bayCarries_iff (s : State) (x : Bay) :
    (s.bay x).carries s.power.carryNeed = true ↔
      readyToCarry (s.bay x) ∧ loadNeed s ≤ ratedDischarge (s.bay x) := by
  rw [BayContext.carries, Bool.and_eq_true, decide_eq_true_eq, mayCarry_eq, maxDischarge_eq]
  rfl

theorem bridgeCarries_iff (s : State) : s.power.bridgeCarries s.swapWindow = true ↔
    loadNeed s ≤ 12000 ∧ loadNeed s * (s.swapWindow + 15) ≤ s.power.bridgeEnergy := by
  rw [PowerUnit.bridgeCarries, Bool.and_eq_true, decide_eq_true_eq, decide_eq_true_eq]
  rfl

theorem carrierFor_eq (s : State) (x : Bay) : s.carrierFor x = firstCarrier s x := by
  simp only [State.carrierFor, firstCarrier, dcCarries_iff, bayCarries_iff, bridgeCarries_iff]

theorem best_eq (s : State) (x : Bay) : (s.carryCheck x).best = bestOffer s x := by
  have hdc : dcOffer s.power = if s.power.dc.isSome then s.power.dcRating else 0 := by
    unfold dcOffer PowerUnit.dcRating
    cases s.power.dc <;> rfl
  simp only [State.carryCheck, bestOffer, hdc]
  rfl

/-- What the carry check finds (R65, R66). -/
theorem carryCheck_eq (s : State) (x : Bay) :
    s.carryCheck x = { carrier := firstCarrier s x, need := loadNeed s, best := bestOffer s x } := by
  rw [← best_eq, ← carrierFor_eq]
  rfl

/-- The states in which the carry check for a release of a bay reads the same. -/
def SameCheck (s t : State) (x : Bay) : Prop :=
  t.power.inner = s.power.inner ∧ t.bay (otherBay x) = s.bay (otherBay x) ∧ t.swapWindow = s.swapWindow

theorem SameCheck.need {s t : State} {x : Bay} (h : SameCheck s t x) : loadNeed t = loadNeed s := by
  obtain ⟨hp, -, -⟩ := h
  have : t.power.lBase = s.power.lBase := (congrArg PowerUnit.lBase hp : t.power.inner.lBase = s.power.inner.lBase)
  simp only [loadNeed, this]

theorem SameCheck.dc {s t : State} {x : Bay} (h : SameCheck s t x) : t.power.dc = s.power.dc :=
  (congrArg PowerUnit.dc h.1 : t.power.inner.dc = s.power.inner.dc)

theorem SameCheck.rating {s t : State} {x : Bay} (h : SameCheck s t x) : t.power.dcRating = s.power.dcRating := by
  simp only [PowerUnit.dcRating, h.dc]

theorem SameCheck.energy {s t : State} {x : Bay} (h : SameCheck s t x) :
    t.power.bridgeEnergy = s.power.bridgeEnergy :=
  (congrArg PowerUnit.bridgeEnergy h.1 : t.power.inner.bridgeEnergy = s.power.inner.bridgeEnergy)

theorem SameCheck.carrier {s t : State} {x : Bay} (h : SameCheck s t x) : firstCarrier t x = firstCarrier s x := by
  obtain ⟨-, hother, hwindow⟩ := id h
  simp only [firstCarrier, h.need, h.rating, h.dc, h.energy, hother, hwindow]

theorem SameCheck.best {s t : State} {x : Bay} (h : SameCheck s t x) : bestOffer t x = bestOffer s x := by
  obtain ⟨-, hother, hwindow⟩ := id h
  simp only [bestOffer, h.rating, h.dc, h.energy, hother, hwindow]

/-! ### The checks of a release request -/

theorem inForce_eq_any (h : HoldSet) (kind : HoldKind) :
    h.inForce kind = h.entries.any (fun e => decide (e.kind = kind)) := by
  rw [Bool.eq_iff_iff]
  simp [HoldSet.inForce, HoldSet.count, List.length_pos_iff_exists_mem]

/-- What a release request comes to, by the checks in order (R76). -/
theorem releaseResult_eq (s : State) (x : Bay) : s.releaseResult x =
    match refusalOf s x with
    | some (r, need, best) => .refused r need best
    | none =>
      match firstCarrier s x with
      | some k => .granted k (loadNeed s) (bestOffer s x)
      | none => .refused .carryShort (loadNeed s) (bestOffer s x) := by
  unfold State.releaseResult State.releaseRefusal refusalOf
  rw [carryCheck_eq, inForce_eq_any]
  by_cases hvacant : (s.bay x).state = .vacant
  · simp [hvacant]
  by_cases honline : (s.bay x).state ≠ .online
  · simp [hvacant, honline]
  by_cases hlatch : (s.bay x).latch ≠ .closed
  · simp [hvacant, honline, hlatch]
  by_cases hbusy : (s.bay (otherBay x)).state = .releasing
  · simp [hvacant, honline, hlatch, hbusy]
  by_cases hguard : s.holds.entries.any (fun e => decide (e.kind = .latch x)) = true
  · simp only [hvacant, honline, hlatch, hbusy, hguard, or_self, if_true, if_false]
  cases hcarrier : firstCarrier s x <;>
    simp only [hvacant, honline, hlatch, hbusy, hguard, or_self, if_true, if_false, reduceCtorEq]

theorem releaseResult_refused {s : State} {x : Bay} {r : Reason} {v : Nat × Nat} (h : refusalOf s x = some (r, v)) :
    s.releaseResult x = .refused r v.1 v.2 := by
  rw [releaseResult_eq, h]

/-- A request that every check lets pass finds bay X ONLINE, its latch CLOSED, and a carrier (R76). -/
theorem of_refusalOf_none {s : State} {x : Bay} (h : refusalOf s x = none) :
    (s.bay x).state = .online ∧ (s.bay x).latch = .closed ∧ ∃ k, firstCarrier s x = some k := by
  unfold refusalOf at h
  split at h
  · cases h
  split at h
  · cases h
  rename_i hstate
  push Not at hstate
  split at h
  · cases h
  split at h
  · cases h
  split at h
  · cases h
  rename_i hcarrier
  exact ⟨hstate.1, hstate.2, Option.ne_none_iff_exists'.mp hcarrier⟩

theorem releaseResult_granted {s : State} {x : Bay} {k : Carrier} (h : refusalOf s x = none)
    (hk : firstCarrier s x = some k) : s.releaseResult x = .granted k (loadNeed s) (bestOffer s x) := by
  rw [releaseResult_eq, h, hk]

theorem bayOfCode_code (x : Bay) : bayOfCode (bayCode x) = some x := by cases x <;> rfl

theorem bayOfCode_none {n : Nat} (h : 1 < n) : bayOfCode n = none := by
  unfold bayOfCode
  split <;> first | omega | rfl

/-! ### Refusals -/

theorem workBayRelease_bad {s : State} {k : Nat} (h : 1 < s.param k 0 1) :
    workBayRelease s k = s.answer k .refused .badParam [byte (s.param k 0 1)] := by
  unfold workBayRelease
  rw [bayOfCode_none h]
  rfl

theorem workBayRelease_refused {s : State} {k : Nat} {x : Bay} {r : Reason} {v : Nat × Nat}
    (hx : s.param k 0 1 = bayCode x) (h : refusalOf s x = some (r, v)) :
    workBayRelease s k = s.answer k .refused r
      ([byte (bayCode x), byte (bayStateCode (s.bay x).state), byte (latchCode (s.bay x).latch), 0, 0, 0, 0, 0] ++
        leBytes 4 v.1 ++ leBytes 4 v.2) := by
  unfold workBayRelease
  rw [hx, bayOfCode_code]
  show s.slotRelease k x = _
  rw [State.slotRelease, releaseResult_refused h]
  rfl

/-! ### The grant (R79) -/

/-- A bay context put in the place of itself changes nothing. -/
theorem putBay_self (s : State) (b : Bay) : s.putBay b (s.bay b) = s := by
  have hpower : s.power.bayLeft b (s.bay b) (s.bay b) = s.power := bayLeft_same _ _ _ _ id
  have hset : s.setBay b (s.bay b) = s := by cases b <;> rfl
  simp only [State.putBay, hpower, hset, bayNews, ne_eq, not_true_eq_false, decide_false, Bool.or_self,
    Bool.false_eq_true, if_false]

theorem drivenClosed_of_not_opening {c : BayContext} (now : Instant) (h : c.latch ≠ .opening) (h' : c.latch ≠ .opened) :
    c.drivenClosed now = c := by
  unfold BayContext.drivenClosed
  rw [if_neg]
  cases hl : c.latch <;> simp_all [LatchState.isOpening]

/-- A drive to close of a latch that is neither OPENING nor OPEN changes nothing (R73). -/
theorem driveClose_of_not_opening {s : State} {b : Bay} (h : (s.bay b).latch ≠ .opening)
    (h' : (s.bay b).latch ≠ .opened) : s.driveClose b = s := by
  rw [State.driveClose, drivenClosed_of_not_opening _ h h', putBay_self]

/-- The state once a hold entry without expiry has been appended (R96). -/
def entryAppended (s : State) (kind : HoldKind) (owner : HoldOwner) : State :=
  { s with
    holds := { s.holds with
      entries := s.holds.entries ++ [{ kind := kind, owner := owner, expiry := none, created := s.uptime }] } }

theorem entryAppended_kept (s : State) (kind : HoldKind) (owner : HoldOwner) :
    Kept [.holds] s (entryAppended s kind owner) := by
  intro p hp
  cases p <;> first | rfl | simp at hp

/-- A new LATCH entry of a bay that is not the release's, with its latch shut, has no further effect (R89, R102). -/
theorem holdAdd_latch_shut {s : State} {b : Bay} {owner : HoldOwner} (hnew : s.holds.holds (.latch b) owner = false)
    (hswap : ∀ w, s.swap = some w → w.bay ≠ b) (h : (s.bay b).latch ≠ .opening) (h' : (s.bay b).latch ≠ .opened) :
    s.holdAdd (.latch b) owner = entryAppended s (.latch b) owner := by
  have harrival : (entryAppended s (.latch b) owner).holdArrival b owner = entryAppended s (.latch b) owner := by
    unfold State.holdArrival
    cases hs : (entryAppended s (.latch b) owner).swap with
    | none => rfl
    | some w => exact if_neg (fun hw => hswap w hs hw.1)
  have hforce : (entryAppended s (.latch b) owner).enterForce (.latch b) owner = entryAppended s (.latch b) owner := by
    have hdrive : (entryAppended s (.latch b) owner).driveClose b = entryAppended s (.latch b) owner :=
      driveClose_of_not_opening h h'
    show ((entryAppended s (.latch b) owner).driveClose b).holdArrival b owner = _
    rw [hdrive, harrival]
  unfold State.holdAdd
  rw [if_neg (by simp [hnew])]
  show (if _ then entryAppended s (.latch b) owner else (entryAppended s (.latch b) owner).enterForce (.latch b) owner) = _
  rw [hforce, ite_self]

/-- The bay context of a release that is granted (R79). -/
def grantedBay (c : BayContext) : BayContext := { c with state := .releasing, pollDue := none, pathClosed := false }

/-- The state of the release once granted, before the entry for the other bay's latch (R79). -/
def grantBegun (s : State) (x : Bay) (w : SwapContext) : State :=
  (s.putSwap (some w)).putBay x (grantedBay (s.bay x))

theorem grant_eq {s : State} {x : Bay} {r : Requester} {c : Carrier} {need best : Nat}
    (h : (s.bay (otherBay x)).latch ≠ .opening) (h' : (s.bay (otherBay x)).latch ≠ .opened)
    (hnew : s.holds.holds (.latch (otherBay x)) .swap = false) :
    s.grant x r c need best =
      entryAppended (grantBegun s x (grantContext x r c need best s.clock)) (.latch (otherBay x)) .swap := by
  have hother : (grantBegun s x (grantContext x r c need best s.clock)).bay (otherBay x) = s.bay (otherBay x) := by
    rw [grantBegun, State.bay_putBay_other, State.putSwap_bay]
  have hopen : ((grantBegun s x (grantContext x r c need best s.clock)).bay (otherBay x)).latch ≠ .opening := by
    rwa [hother]
  have hopen' : ((grantBegun s x (grantContext x r c need best s.clock)).bay (otherBay x)).latch ≠ .opened := by
    rwa [hother]
  have hswap : ∀ w, (grantBegun s x (grantContext x r c need best s.clock)).swap = some w → w.bay ≠ otherBay x := ?_
  · exact holdAdd_latch_shut hnew hswap hopen hopen'
  intro w hw
  have hw : some (grantContext x r c need best s.clock) = some w := hw
  cases hw
  exact (otherBay_ne x).symm

/-- The power unit with a bay's charge allocation at 0 mW (R58). -/
def chargeDropped (p : PowerUnit) : Bay → PowerUnit
  | .a => { p with chargeA := 0 }
  | .b => { p with chargeB := 0 }

theorem chargeDropped_line (p : PowerUnit) (x : Bay) : (chargeDropped p x).hibernate = p.hibernate ∧
    (chargeDropped p x).platform = p.platform ∧ (chargeDropped p x).episode = p.episode := by
  cases x <;> exact ⟨rfl, rfl, rfl⟩

/-- The charge allocation of a bay that leaves ONLINE is 0 mW (R58). -/
theorem bayLeft_online {p : PowerUnit} {x : Bay} {c d : BayContext} (h : c.state = .online) (h' : d.state ≠ .online) :
    p.bayLeft x c d = chargeDropped p x := by
  cases x <;> simp [PowerUnit.bayLeft, chargeDropped, h, h']

theorem grantBegun_power {s : State} {x : Bay} (w : SwapContext) (h : (s.bay x).state = .online) :
    (grantBegun s x w).power = chargeDropped s.power x :=
  bayLeft_online (c := (s.putSwap (some w)).bay x) h (by simp [grantedBay])

theorem grantBegun_news {s : State} {x : Bay} (w : SwapContext) (h : (s.bay x).state = .online) :
    (grantBegun s x w).notices.news = s.notices.news ||| newsBay := by
  have hnews : bayNews ((s.putSwap (some w)).bay x) (grantedBay (s.bay x)) = true := by
    simp [bayNews, grantedBay, h]
  rw [grantBegun, State.putBay_notices_news, if_pos hnews, State.putSwap_notices_news]
  split
  · rfl
  · rw [BitVec.or_assoc, BitVec.or_self]

theorem grantBegun_kept (s : State) (x : Bay) (w : SwapContext) :
    Kept [.swap, .news, .bay x, .power] s (grantBegun s x w) :=
  ((putSwap_kept s (some w)).append (putBay_kept _ x _)).mono (by simp)

/-! ### The grant of a BAY_RELEASE -/

/-- The state that the work of a granted BAY_RELEASE leaves (R76, R79). -/
def releaseTaken (s : State) (k : Nat) (x : Bay) (c : Carrier) : State :=
  entryAppended
    (grantBegun (s.popIntake.accept k) x
      (grantContext x (.slot k (s.acceptanceOf k + 1)) c (loadNeed s) (bestOffer s x) s.clock))
    (.latch (otherBay x)) .swap

theorem workBayRelease_granted {s : State} {k : Nat} {x : Bay} {c : Carrier} (hx : s.param k 0 1 = bayCode x)
    (hnone : refusalOf s x = none) (hc : firstCarrier s x = some c)
    (h : (s.bay (otherBay x)).latch ≠ .opening) (h' : (s.bay (otherBay x)).latch ≠ .opened)
    (hnew : s.holds.holds (.latch (otherBay x)) .swap = false) :
    workBayRelease s.popIntake k = releaseTaken s k x c := by
  have hresult : s.popIntake.releaseResult x = .granted c (loadNeed s) (bestOffer s x) :=
    releaseResult_granted (s := s.popIntake) hnone hc
  have hparam : s.popIntake.param k 0 1 = bayCode x := hx
  unfold workBayRelease
  rw [hparam, bayOfCode_code]
  show s.popIntake.slotRelease k x = _
  rw [State.slotRelease, hresult]
  exact grant_eq (s := s.popIntake.accept k) h h' hnew

theorem releaseTaken_kept (s : State) (k : Nat) (x : Bay) (c : Carrier) :
    Kept [.intake, .acceptance, .swap, .news, .bay x, .power, .holds] s (releaseTaken s k x c) :=
  ((((popIntake_kept s).append (accept_kept _ k)).append (grantBegun_kept _ x _)).append
    (entryAppended_kept _ _ _)).mono (by simp)

theorem releaseTaken_bytesKept (s : State) (k : Nat) (x : Bay) (c : Carrier) :
    BytesKept [ownerArea k] s (releaseTaken s k x c) := by
  have : BytesKept [(slotBase k, (leBytes 4 ownerAccepted).length)] s (s.store (slotBase k) (leBytes 4 ownerAccepted)) :=
    store_bytesKept s _ _
  rw [leBytes_length] at this
  exact this

theorem releaseTaken_slotOwner {s : State} {k : Nat} (hk : k < 24) (x : Bay) (c : Carrier) :
    (releaseTaken s k x c).slotOwner k = ownerAccepted :=
  Memory.readNat_write s.port.memory (slotBase k) 4 ownerAccepted (by simp only [slotBase]; omega) (by decide)

theorem releaseTaken_acceptanceOf {s : State} {k : Nat} (hk : k < s.port.acceptance.length) (x : Bay) (c : Carrier) :
    (releaseTaken s k x c).acceptanceOf k = s.acceptanceOf k + 1 := by
  show (s.port.acceptance.set k (s.acceptanceOf k + 1)).getD k 0 = _
  simp [List.getD_eq_getElem?_getD, hk]

theorem storageGuardLevel_congr {s a : State} (hp : a.power.platform = s.power.platform)
    (hs : a.holds.inForce .storage = s.holds.inForce .storage) : a.storageGuardLevel = s.storageGuardLevel := by
  rw [State.storageGuardLevel, State.storageGuardLevel, hp, hs]

theorem hibernateLevel_congr {s a : State} (hp : a.power.platform = s.power.platform)
    (he : a.power.episode = s.power.episode) : a.hibernateLevel = s.hibernateLevel := by
  rw [State.hibernateLevel, State.hibernateLevel, PowerUnit.critical, PowerUnit.critical, hp, he]

theorem releaseTaken_power {s : State} {x : Bay} (k : Nat) (c : Carrier) (h : (s.bay x).state = .online) :
    (releaseTaken s k x c).power = chargeDropped s.power x :=
  grantBegun_power (s := s.popIntake.accept k) _ h

theorem releaseTaken_storage (s : State) (k : Nat) (x : Bay) (c : Carrier) :
    (releaseTaken s k x c).holds.inForce .storage = s.holds.inForce .storage := by
  rw [inForce_eq_any, inForce_eq_any]
  show (s.holds.entries ++ [_]).any _ = _
  simp

theorem exec_bayRelease_granted {s : State} {k : Nat} {x : Bay} (hs : s.LinesHold) (hshaped : s.Shaped)
    (ht : s.Takes k 1) (hx : s.param k 0 1 = bayCode x) (hnone : refusalOf s x = none)
    (h : (s.bay (otherBay x)).latch ≠ .opening) (h' : (s.bay (otherBay x)).latch ≠ .opened)
    (hnew : s.holds.holds (.latch (otherBay x)) .swap = false) :
    ∃ t, exec .bayRelease s = .next t ∧ AcceptedBy s t k ∧ Granted s t x (.slot k (s.acceptanceOf k + 1)) ∧
      Kept [.intake, .acceptance, .swap, .bay x, .power, .holds, .news, .attention] s t ∧
      BytesKept [ownerArea k, sourcesArea, bayArea .a, bayArea .b, holdArea] s t := by
  have hk : k < 24 := takes_lt ht
  obtain ⟨hlength, -⟩ := hshaped
  obtain ⟨honline, hlatch, c, hc⟩ := of_refusalOf_none hnone
  have hexec : exec .bayRelease s = finish s (s.take 1 workBayRelease) := rfl
  have hpower := releaseTaken_power k c honline
  obtain ⟨hhib, hplatform, hepisode⟩ := chargeDropped_line s.power x
  rw [← hpower] at hhib hplatform hepisode
  have hlevel := hibernateLevel_congr hplatform hepisode
  have hguard := storageGuardLevel_congr hplatform (releaseTaken_storage s k x c)
  have hbay : (releaseTaken s k x c).bay x = grantedBay (s.bay x) := State.bay_putBay _ x _
  rw [hexec, take_of_takes ht, workBayRelease_granted hx hnone hc h h' hnew]
  refine ⟨_, rfl, ⟨?_, ?_, rfl⟩, ⟨?_, ?_⟩, ?_, ?_⟩
  · rw [slotOwner_of_bytesKept (finished_live s _ rfl) (slotApart_live k), releaseTaken_slotOwner hk]
  · rw [finished_acceptanceOf, releaseTaken_acceptanceOf (by omega)]
  · intro d hd
    obtain rfl : c = d := Option.some.inj (hc.symm.trans hd)
    rfl
  · simp only [finished_bay, hbay, finished_power, hlevel, finished_news_same _ hs hhib hlevel]
    refine ⟨rfl, rfl, rfl, rfl, rfl, rfl, rfl, hlatch, ?_, rfl, grantBegun_news (s := s.popIntake.accept k) _ honline⟩
    rw [← hs.2.2, hpower]
    cases x <;> rfl
  · exact kept_finished {} hs (releaseTaken_kept s k x c) (by simp) hhib (.inr hlevel) (fun _ => hguard) (by simp)
  · refine bytesKept_finished {} (releaseTaken_bytesKept s k x c) (by simp) ⟨rfl, rfl, rfl⟩ rfl (by simp) ?_ ?_ (by simp)
    · intro b _
      cases b <;> simp
    · have hbright : (releaseTaken s k x c).bright = s.bright := rfl
      exact fun hb => absurd hb (by simp [hbright])

/-- Settles O41: a request is refused for a value that names no bay, by the first check that fails, or granted. -/
theorem bayReleaseTaken : Obligations.BayReleaseTaken := by
  intro k s hs hshaped ht
  refine ⟨fun hbad => ?_, fun x hx => ⟨fun r v hrefusal => ?_, fun hnone h h' hnew => ?_⟩⟩
  · exact answered_of_takes (c := .bayRelease) hs ht rfl (workBayRelease_bad hbad)
  · exact answered_of_takes (c := .bayRelease) hs ht rfl
      (workBayRelease_refused (s := s.popIntake) (k := k) (x := x) hx hrefusal)
  · exact exec_bayRelease_granted hs hshaped ht hx hnone h h' hnew

end Sys2Proof.Machine.PowerSources
end

section
/-! SUPPORT. What a piece of work tells the host: the notices that it posts and the news bits that it sets, one after the
other (R190, R191). -/

namespace Sys2Proof.Machine.PowerSources

/-! ### The room of the notice list -/

/-- The notices listed between two indices (R188). -/
def listedIn (l : Nat × Nat × List Notice × Nat × List Notice) : Nat := (l.1 + 32 - l.2.1) % 32

/-- The indices of the notice list are 0 to 31 (R188). -/
def Indexed (l : Nat × Nat × List Notice × Nat × List Notice) : Prop := l.1 < 32 ∧ l.2.1 < 32

theorem listedIn_list (u : NoticeUnit) : listedIn u.list = u.listed := rfl

theorem listed_le (u : NoticeUnit) : u.listed ≤ 31 := by
  unfold NoticeUnit.listed
  omega

theorem indexed_postedList {l : Nat × Nat × List Notice × Nat × List Notice} (h : Indexed l) (up : Nat) (p : Post) :
    Indexed (postedList up l p) := by
  obtain ⟨bottom, top, entries, counter, deferred⟩ := l
  obtain ⟨hb, ht⟩ := h
  unfold postedList
  dsimp only at hb ht ⊢
  split
  · exact ⟨Nat.mod_lt _ (by decide), ht⟩
  · exact ⟨hb, ht⟩

/-- Each posting takes one entry of the list while there is room (R190, R191). -/
theorem listedIn_postedList {l : Nat × Nat × List Notice × Nat × List Notice} (h : Indexed l) (up : Nat) (p : Post) :
    listedIn (postedList up l p) = min 31 (listedIn l + 1) := by
  obtain ⟨bottom, top, entries, counter, deferred⟩ := l
  obtain ⟨hb, ht⟩ := h
  unfold postedList
  dsimp only at hb ht ⊢
  split <;> simp only [listedIn] <;> omega

theorem indexed_foldl {l : Nat × Nat × List Notice × Nat × List Notice} (h : Indexed l) (up : Nat) (ps : List Post) :
    Indexed (ps.foldl (postedList up) l) := by
  induction ps generalizing l with
  | nil => exact h
  | cons p ps ih => exact ih (indexed_postedList h up p)

theorem listedIn_foldl {l : Nat × Nat × List Notice × Nat × List Notice} (h : Indexed l) (up : Nat) (ps : List Post) :
    listedIn (ps.foldl (postedList up) l) = min 31 (listedIn l + ps.length) := by
  induction ps generalizing l with
  | nil =>
    have : listedIn l < 32 := Nat.mod_lt _ (by decide)
    simp only [List.foldl_nil, List.length_nil]
    omega
  | cons p ps ih =>
    rw [List.foldl_cons, ih (indexed_postedList h up p), listedIn_postedList h, List.length_cons]
    omega

/-! ### What work tells -/

/-- Work that leaves the clock alone has posted these notices, in this order, and has set these news bits beside theirs. -/
structure Told (s t : State) (posts : List Post) (bits : Byte) : Prop where
  clock : t.clock = s.clock
  list : t.notices.list = posts.foldl (postedList s.uptime) s.notices.list
  news : t.notices.news = s.notices.news ||| s.postBits posts.length ||| bits

theorem Told.uptime {s t : State} {posts : List Post} {bits : Byte} (h : Told s t posts bits) : t.uptime = s.uptime := by
  rw [State.uptime, State.uptime, h.clock]

theorem Told.indexed {s t : State} {posts : List Post} {bits : Byte} (h : Told s t posts bits)
    (hs : Indexed s.notices.list) : Indexed t.notices.list := by
  rw [h.list]
  exact indexed_foldl hs _ _

theorem Told.listed {s t : State} {posts : List Post} {bits : Byte} (h : Told s t posts bits)
    (hs : Indexed s.notices.list) : t.notices.listed = min 31 (s.notices.listed + posts.length) := by
  rw [← listedIn_list, h.list, listedIn_foldl hs, listedIn_list]

/-- Bits of further postings add to those of the first ones. -/
theorem postBits_or {s t : State} {m : Nat} (h : t.notices.listed = min 31 (s.notices.listed + m)) (n : Nat) :
    s.postBits m ||| t.postBits n = s.postBits (m + n) := by
  have hle := listed_le s.notices
  have hbits : newsNotice ||| newsDeferred ||| newsNotice = newsNotice ||| newsDeferred := by decide
  rcases Nat.eq_zero_or_pos m with rfl | hm
  · have : t.notices.listed = s.notices.listed := by omega
    simp [State.postBits, this]
  rcases Nat.eq_zero_or_pos n with rfl | hn
  · simp [State.postBits]
  have hm' : m ≠ 0 := by omega
  have hn' : n ≠ 0 := by omega
  simp only [State.postBits, h, hm', hn', if_false, show m + n ≠ 0 by omega]
  by_cases hfull : s.notices.listed = 31
  · simp only [hfull, if_true]
    rw [if_pos (by omega), BitVec.or_self]
  simp only [hfull, if_false]
  by_cases hroom : s.notices.listed + (m + n) ≤ 31
  · rw [if_pos (by omega), if_pos hroom, if_neg (by omega), if_pos (by omega), BitVec.or_self]
  rw [if_neg hroom]
  by_cases hfirst : s.notices.listed + m ≤ 31
  · rw [if_pos hfirst]
    by_cases hexact : s.notices.listed + m = 31
    · rw [if_pos (by omega)]
    · rw [if_neg (by omega), if_neg (by omega), ← BitVec.or_assoc, BitVec.or_self]
  · rw [if_neg hfirst, if_pos (by omega), BitVec.or_assoc, BitVec.or_self]

theorem Told.refl (s : State) : Told s s [] 0 := ⟨rfl, rfl, by simp [State.postBits]⟩

theorem Told.trans {s t u : State} {ps qs : List Post} {bits more : Byte} (hs : Indexed s.notices.list)
    (h : Told s t ps bits) (h' : Told t u qs more) : Told s u (ps ++ qs) (bits ||| more) := by
  refine ⟨h'.clock.trans h.clock, ?_, ?_⟩
  · rw [h'.list, h.uptime, h.list, List.foldl_append]
  · rw [h'.news, h.news, List.length_append, ← postBits_or (h.listed hs)]
    ac_rfl

/-- Work that posts nothing. -/
theorem told_nothing {s t : State} {bits : Byte} (hc : t.clock = s.clock) (hl : t.notices.list = s.notices.list)
    (hn : t.notices.news = s.notices.news ||| bits) : Told s t [] bits :=
  ⟨hc, hl, by rw [hn]; simp [State.postBits]⟩

theorem told_post (s : State) (p : Post) : Told s (s.post p.kind p.bay p.flags p.payload) [p] 0 := by
  have hposted := post_posted s p.kind p.bay p.flags p.payload
  have hkept := post_kept s p.kind p.bay p.flags p.payload
  have hclock : (s.post p.kind p.bay p.flags p.payload).clock = s.clock := hkept .clock (by simp)
  have hup : (s.post p.kind p.bay p.flags p.payload).uptime = s.uptime := congrArg uptimeOf hclock
  refine ⟨hclock, ?_, ?_⟩
  · unfold Posted at hposted
    rw [List.foldl_cons, List.foldl_nil]
    show _ = postedList s.uptime (s.notices.bottom, s.notices.top, s.notices.entries, s.notices.counter,
      s.notices.deferred) p
    unfold postedList
    rw [hup] at hposted
    split at hposted
    · rw [hposted]
      exact (if_pos ‹_›).symm
    · rw [hposted]
      exact (if_neg ‹_›).symm
  · have hle := listed_le s.notices
    have hbits : s.postNews = s.postBits 1 := by
      unfold State.postNews State.postBits
      by_cases hfull : s.notices.listed = 31
      · simp [hfull]
      · rw [if_pos (by omega), if_neg (by decide), if_neg hfull, if_pos (by omega)]
    rw [post_news, hbits]
    simp

theorem told_setNews (s : State) (bits : Byte) : Told s (s.setNews bits) [] bits := told_nothing rfl rfl rfl

/-! ### Bytes of the notice list -/

/-- The postings of work that starts with indices in range stay within the entry places (R190). -/
theorem noticeArea_within {s : State} (h : Indexed s.notices.list) {A : List Area} {t : State}
    (hb : BytesKept (noticeArea s :: A) s t) : BytesKept (noticesArea :: A) s t := by
  refine hb.widen fun r hr => ?_
  rcases List.mem_cons.1 hr with rfl | hr
  · have hbottom : s.notices.bottom < 32 := h.1
    refine ⟨noticesArea, by simp, ?_⟩
    simp only [noticeArea, noticesArea, noticePlace]
    omega
  · exact ⟨r, by simp [hr], Nat.le_refl _, Nat.le_refl _⟩

theorem post_within {s : State} (h : Indexed s.notices.list) (p : Post) :
    BytesKept [noticesArea] s (s.post p.kind p.bay p.flags p.payload) :=
  noticeArea_within h (post_bytesKept s p.kind p.bay p.flags p.payload)

theorem slotApart_notices {k : Nat} (hk : k < 24) : SlotApart [noticesArea] k := by
  simp only [SlotApart, noticesArea, slotBase, List.mem_singleton, forall_eq]
  omega

end Sys2Proof.Machine.PowerSources
end

section
/-! SUPPORT. The figures of a budget step (R52 to R61, R124). -/

namespace Sys2Proof.Machine.PowerSources

/-! ### The stages -/

/-- Clamping a signed value into a range of naturals. -/
theorem toNat_clampInt {hi z : Int} (h : 0 ≤ hi) : ((clampInt 0 hi z).toNat : Int) = max 0 (min hi z) := by
  unfold clampInt
  split
  · omega
  · split <;> omega

theorem clamp_eq (lo hi n : Nat) (h : lo ≤ hi) : clamp lo hi n = max lo (min hi n) := by
  unfold clamp
  split
  · omega
  · split <;> omega

theorem meanLoad_eq (l : List Nat) : meanLoad l = if l = [] then 0 else min 150000 (l.sum / l.length) := by
  cases l <;> rfl

theorem supplyOf_eq (c : BayContext) : c.supplyOf = packSupply c := rfl

theorem take_eq (c : BayContext) (rest : Nat) : c.take rest = if mayCharge c then min rest (ratedCharge c) else 0 := rfl

/-- The mode and S (R53). -/
theorem mode_supply (p : PowerUnit) (a b : BayContext) :
    (p.dc.isSome = true → modeOf p.dc a b = .dc ∧ supplyOf p a b = p.dcRating) ∧
    (p.dc = none → (a.pathClosed = true ∨ b.pathClosed = true) →
      modeOf p.dc a b = .packs ∧ supplyOf p a b = packSupply a + packSupply b) ∧
    (p.dc = none → a.pathClosed = false → b.pathClosed = false → modeOf p.dc a b = .bridge ∧ supplyOf p a b = 12000) := by
  refine ⟨fun hdc => ?_, fun hdc hpath => ?_, fun hdc ha hb => ?_⟩
  · have hmode : modeOf p.dc a b = .dc := if_pos hdc
    exact ⟨hmode, by rw [supplyOf, hmode]⟩
  · have hmode : modeOf p.dc a b = .packs := by simp [modeOf, hdc, hpath]
    exact ⟨hmode, by rw [supplyOf, hmode, supplyOf_eq, supplyOf_eq]⟩
  · have hmode : modeOf p.dc a b = .bridge := by simp [modeOf, hdc, ha, hb]
    exact ⟨hmode, by rw [supplyOf, hmode]⟩

/-- The allocations of the bays: the lower relative charge first, bay A on a tie, and together no more than the rest
(R57). -/
theorem shares_spec (a b : BayContext) (rest : Nat) :
    let second := mayCharge b = true ∧ chargeOf b < chargeOf a
    (shares a b rest).1 =
        (if mayCharge a then min (rest - (if second then (shares a b rest).2 else 0)) (ratedCharge a) else 0) ∧
      (shares a b rest).2 =
        (if mayCharge b then min (rest - (if second then 0 else (shares a b rest).1)) (ratedCharge b) else 0) ∧
      (shares a b rest).1 + (shares a b rest).2 ≤ rest := by
  intro second
  by_cases hfirst : second
  · have hshares : shares a b rest = (a.take (rest - b.take rest), b.take rest) := if_pos hfirst
    simp only [hshares, if_pos hfirst, take_eq, Nat.sub_zero, true_and]
    split <;> split <;> omega
  · have hshares : shares a b rest = (a.take rest, b.take (rest - a.take rest)) := if_neg hfirst
    simp only [hshares, if_neg hfirst, take_eq, Nat.sub_zero, true_and]
    split <;> split <;> omega

/-- H is 0 without DC, so that the bridge allocation then is too (R56). -/
theorem bridgeShare_eq (p : PowerUnit) :
    p.bridgeShare = if p.bridgeEnergy < 19000000 then min 1500 p.headroomOf else 0 := by
  unfold PowerUnit.bridgeShare PowerUnit.headroomOf
  cases hdc : p.dc.isSome <;> simp

/-- The power unit after a budget step, its line at a level (R51). -/
def budgetUnit (s : State) (line : Bool) : PowerUnit :=
  { s.power.stages s.bright s.bayA s.bayB with budgetDue := s.power.budgetDue + 400, hibernate := line }

theorem budgetUnit_line (s : State) (line line' : Bool) :
    { budgetUnit s line with hibernate := line' } = budgetUnit s line' := by simp only [budgetUnit]

/-- The power unit of a budget step after stage 4 (R52 to R54, R59). -/
def supplied (s : State) : PowerUnit := (s.power.measure s.bright).supplyStages s.bayA s.bayB

theorem supplied_allowance (s : State) : (supplied s).allowance =
    allowanceOf (supplyOf (s.power.measure s.bright) s.bayA s.bayB) (s.power.measure s.bright).lBase := by
  simp only [supplied, PowerUnit.supplyStages]

theorem budgetUnit_allowance (s : State) (line : Bool) : (budgetUnit s line).allowance = (supplied s).allowance := by
  simp only [budgetUnit, PowerUnit.stages, PowerUnit.episodeStage, PowerUnit.chargeStage, supplied]

theorem budgetFigures_of_power {s t : State} {line : Bool} (ht : t.power = budgetUnit s line) : BudgetFigures s t := by
  obtain ⟨hdc, hpacks, hbridge⟩ := mode_supply (s.power.measure s.bright) s.bayA s.bayB
  have hload : t.power.pSys = meanLoad s.power.samples := by rw [ht]; rfl
  have hlight : t.power.pBl = backlightPower s.bright := by rw [ht]; rfl
  have hbase : t.power.lBase = t.power.pSys - t.power.pBl := by rw [ht]; rfl
  have hmode : t.power.mode = modeOf (s.power.measure s.bright).dc s.bayA s.bayB := by rw [ht]; rfl
  have hsupply : t.power.supply = supplyOf (s.power.measure s.bright) s.bayA s.bayB := by rw [ht]; rfl
  have hbase' : t.power.lBase = (s.power.measure s.bright).lBase := by rw [ht]; rfl
  have hallowance : t.power.allowance = allowanceOf (supplyOf (s.power.measure s.bright) s.bayA s.bayB)
      (s.power.measure s.bright).lBase := by
    rw [ht, budgetUnit_allowance, supplied_allowance]
  rw [← hsupply, ← hbase'] at hallowance
  have henergy : t.power.bridgeEnergy =
      bridgeAfter (s.power.measure s.bright) s.power.mode t.power.mode := by rw [ht]; rfl
  have hroom : t.power.headroom = (supplied s).headroomOf := by rw [ht]; rfl
  have hshare : t.power.chargeBridge = (supplied s).bridgeShare := by rw [ht]; rfl
  have ha : t.power.chargeA = (shares s.bayA s.bayB (t.power.headroom - t.power.chargeBridge)).1 := by rw [ht]; rfl
  have hb : t.power.chargeB = (shares s.bayA s.bayB (t.power.headroom - t.power.chargeBridge)).2 := by rw [ht]; rfl
  have henergy' : (supplied s).bridgeEnergy = t.power.bridgeEnergy := by rw [ht]; rfl
  have hshare' : t.power.chargeBridge = if t.power.bridgeEnergy < 19000000 then min 1500 t.power.headroom else 0 := by
    rw [hshare, bridgeShare_eq, henergy', hroom]
  have hshareLe : t.power.chargeBridge ≤ t.power.headroom := by
    rw [hshare']
    split <;> omega
  obtain ⟨hfirst, hsecond, hsum⟩ := shares_spec s.bayA s.bayB (t.power.headroom - t.power.chargeBridge)
  rw [← ha, ← hb] at hfirst hsecond hsum
  refine ⟨?_, hlight, hbase, ?_, ?_, ?_, ?_, ?_, ?_, hshare', hfirst, hsecond, by omega, ?_, ?_, ?_, ?_, ?_, ?_, ?_⟩
  · rw [hload, meanLoad_eq]
  · rw [hmode, hsupply]
    exact hdc
  · rw [hmode, hsupply]
    exact hpacks
  · rw [hmode, hsupply]
    exact hbridge
  · rw [hallowance, allowanceOf, clamp_eq _ _ _ (by decide)]
  · rw [henergy, bridgeAfter, toNat_clampInt (by decide), hload]
    rfl
  · rw [ht]; rfl
  · rw [ht]; rfl
  · rw [ht]; rfl
  · rw [ht]; rfl
  · rw [ht]; rfl
  · rw [ht]; rfl
  · rw [ht]; rfl
  · rw [ht]; rfl

/-- The brightness unit after an allowance-change event (R54, R124). -/
theorem allowanceEvent_eq (u : BrightUnit) (before after : Nat) :
    u.allowanceEvent before after =
      if after ≠ before ∧ u.display = true ∧ (after - 300) / 7 < u.c then
        { u with c := (after - 300) / 7, duty := ((after - 300) / 7 * 4095 + 700) / 1400 }
      else u := by
  unfold BrightUnit.allowanceEvent
  by_cases hsame : before = after
  · rw [if_pos hsame, if_neg (fun h => h.1 hsame.symm)]
  rw [if_neg hsame]
  unfold BrightUnit.allowanceChange BrightUnit.cap powerLimit
  by_cases hcap : u.display = true ∧ (after - 300) / 7 < u.c
  · rw [if_pos hcap, if_pos hcap, if_pos ⟨Ne.symm hsame, hcap⟩]
    rfl
  · rw [if_neg hcap, if_neg hcap, if_neg (fun h => hcap h.2)]

/-- What a budget step accounts for beside its notices (R51 to R61, R63, R124). -/
def Accounted (s t : State) : Prop :=
  t.clock = max s.clock s.power.budgetDue ∧ BudgetFigures s t ∧
    t.power.hibernate = (t.power.critical && (s.power.platform != .off)) ∧
    t.bright = (if t.power.allowance ≠ s.power.allowance ∧ s.bright.display = true ∧
        (t.power.allowance - 300) / 7 < s.bright.c then
      { s.bright with
        c := (t.power.allowance - 300) / 7, duty := ((t.power.allowance - 300) / 7 * 4095 + 700) / 1400 }
      else s.bright)

end Sys2Proof.Machine.PowerSources
end

section
/-! SUPPORT. The loss of a release's carrier: a release that goes on, and one that ends at once (R83 to R85, R90, R91). -/

namespace Sys2Proof.Machine.PowerSources

/-! ### The relatch (R83) -/

/-- RELATCHING entered: the context, and the latch driven closed (R83). -/
def relatchBegun (s : State) (w : SwapContext) (reason : Option AbortReason) : State :=
  (s.putSwap (some (w.relatching reason))).driveClose w.bay

theorem relatchBegun_bay (s : State) (w : SwapContext) (reason : Option AbortReason) :
    (relatchBegun s w reason).bay w.bay = (s.bay w.bay).drivenClosed s.clock := by
  rw [relatchBegun, State.driveClose, State.bay_putBay]
  rfl

/-- A latch that is not shut when RELATCHING is entered has the release wait for it (R83). -/
theorem enterRelatching_waits {s : State} {w : SwapContext} (reason : Option AbortReason) (h : ¬ s.latchedFor w) :
    s.enterRelatching w reason = relatchBegun s w reason := by
  unfold State.latchedFor at h
  push Not at h
  obtain ⟨hclosed, hstuck⟩ := h
  have hlatch : ((relatchBegun s w reason).bay w.bay).latch = .closing := by
    rw [relatchBegun_bay, BayContext.drivenClosed]
    cases hl : (s.bay w.bay).latch <;> simp_all [LatchState.isOpening, BayContext.closing]
  unfold State.enterRelatching
  dsimp only
  change ((State.driveClose _ _).bay _).latch = _ at hlatch
  rw [hlatch]
  rfl

/-- A latch that is CLOSED or STUCK when RELATCHING is entered ends the release at once (R83). -/
theorem enterRelatching_ends {s : State} {w : SwapContext} (reason : Option AbortReason) (h : s.latchedFor w) :
    s.enterRelatching w reason = (s.putSwap (some (w.relatching reason))).relatchComplete (w.relatching reason) := by
  have hdriven : (s.putSwap (some (w.relatching reason))).driveClose w.bay = s.putSwap (some (w.relatching reason)) :=
    driveClose_of_not_opening (by rcases h with h | h <;> simp [h]) (by rcases h with h | h <;> simp [h])
  unfold State.enterRelatching
  dsimp only
  rw [hdriven, State.putSwap_bay]
  rcases h with h | h <;> rw [h]

/-! ### The failed carry check (R91) -/

/-- The state with the path switch of a releasing bay closed again (R91). -/
def pathClosedAgain (s : State) (x : Bay) : State := s.putBay x { s.bay x with pathClosed := true }

theorem pathClosedAgain_bay (s : State) (x : Bay) : (pathClosedAgain s x).bay x = { s.bay x with pathClosed := true } :=
  State.bay_putBay s x _

theorem pathClosedAgain_kept (s : State) (x : Bay) : Kept [.bay x] s (pathClosedAgain s x) := by
  have h := putBay_kept_power s x { s.bay x with pathClosed := true } id
  intro p hp
  by_cases hnews : p = .news
  · subst hnews
    simp [Same, pathClosedAgain, bayNews]
  · exact h p (by simpa [hnews] using hp)

/-- The state that a failed carry check leaves of a release that already relatches: the path reclosed (R91). -/
def lossNoted (s : State) (w : SwapContext) : State := (pathClosedAgain s w.bay).putSwap (some (reclosedAt w s))

theorem latchedFor_pathClosedAgain {s : State} {w : SwapContext} :
    (pathClosedAgain s w.bay).latchedFor (reclosedAt w s) ↔ s.latchedFor w := by
  have h : (pathClosedAgain s w.bay).bay (reclosedAt w s).bay = { s.bay w.bay with pathClosed := true } :=
    pathClosedAgain_bay s w.bay
  rw [State.latchedFor, State.latchedFor, h]

section
variable {s : State} {w : SwapContext}

theorem carrierLoss_found (hw : s.swap = some w) (hpath : w.pathReclosed = false) {c : Carrier}
    (hc : firstCarrier s w.bay = some c) :
    s.carrierLoss = s.putSwap (some { w with carrier := c, need := loadNeed s, best := bestOffer s w.bay }) := by
  unfold State.carrierLoss
  simp only [hw, hpath, carryCheck_eq, hc, Bool.false_eq_true, if_false]

theorem carrierLoss_failed (hw : s.swap = some w) (hpath : w.pathReclosed = false) (hc : firstCarrier s w.bay = none) :
    s.carrierLoss = s.recloseFailed w { carrier := none, need := loadNeed s, best := bestOffer s w.bay } := by
  unfold State.carrierLoss
  simp only [hw, hpath, carryCheck_eq, hc, Bool.false_eq_true, if_false]

theorem carrierLoss_relatching (hw : s.swap = some w) (hpath : w.pathReclosed = false)
    (hc : firstCarrier s w.bay = none) (hphase : w.phase = .relatching) : s.carrierLoss = lossNoted s w := by
  rw [carrierLoss_failed hw hpath hc, State.recloseFailed]
  exact if_pos hphase

theorem carrierLoss_relatches (hw : s.swap = some w) (hpath : w.pathReclosed = false)
    (hc : firstCarrier s w.bay = none) (hphase : w.phase ≠ .relatching) :
    s.carrierLoss = (pathClosedAgain s w.bay).enterRelatching (reclosedAt w s) (some .carrierLost) := by
  rw [carrierLoss_failed hw hpath hc, State.recloseFailed]
  exact if_neg hphase

theorem carrierLoss_waits (hw : s.swap = some w) (hpath : w.pathReclosed = false) (hc : firstCarrier s w.bay = none)
    (hphase : w.phase ≠ .relatching) (hlatch : ¬ s.latchedFor w) :
    s.carrierLoss = relatchBegun (pathClosedAgain s w.bay) (reclosedAt w s) (some .carrierLost) := by
  rw [carrierLoss_relatches hw hpath hc hphase, enterRelatching_waits _ (mt latchedFor_pathClosedAgain.1 hlatch)]

end

/-! ### A release that goes on -/

theorem drivenClosed_eq (c : BayContext) (now : Instant) : c.drivenClosed now = drivenClosedAt c now := by
  unfold BayContext.drivenClosed drivenClosedAt
  cases hl : c.latch <;> simp [LatchState.isOpening, BayContext.closing]

/-- A swap context that changes sets the news bit BAY (R69). -/
theorem told_putSwap {s : State} {v : Option SwapContext} (h : s.swap ≠ v) : Told s (s.putSwap v) [] newsBay :=
  told_nothing rfl rfl (by rw [State.putSwap_notices_news, if_neg h])

theorem told_of_kept {L : List Part} {s t : State} (h : Kept L s t) (hc : Part.clock ∉ L) (hl : Part.noticeList ∉ L)
    (hn : Part.news ∉ L) : Told s t [] 0 :=
  told_nothing (h _ hc) (h _ hl) (by rw [show t.notices.news = s.notices.news from h _ hn]; simp)

/-- What the loss of a carrier leaves of a release that goes on (R90, R91). -/
structure WentOn (s t : State) (w : SwapContext) : Prop where
  told : Told s t [] newsBay
  kept : Kept [.swap, .bay w.bay, .news] s t
  memory : t.port.memory = s.port.memory
  checked : CarrierChecked s t w

theorem sameCheck_of_kept {L : List Part} {s t : State} {x : Bay} (h : Kept L s t) (hp : Part.power ∉ L)
    (hb : Part.bay (otherBay x) ∉ L) (hw : Part.swapWindow ∉ L) : SameCheck s t x := ⟨h _ hp, h _ hb, h _ hw⟩

theorem reclosedAt_congr {s t : State} {w : SwapContext} (h : SameCheck s t w.bay) : reclosedAt w t = reclosedAt w s := by
  rw [reclosedAt, reclosedAt, h.need, h.best]

theorem reclosedAt_ne {s : State} {w : SwapContext} (hpath : w.pathReclosed = false) : reclosedAt w s ≠ w := by
  intro h
  have := congrArg SwapContext.pathReclosed h
  rw [hpath] at this
  exact absurd this (by simp [reclosedAt])

theorem relatchedFor_ne {s : State} {w : SwapContext} (hpath : w.pathReclosed = false) (r : AbortReason) :
    relatchedFor (reclosedAt w s) r ≠ w := by
  intro h
  have := congrArg SwapContext.pathReclosed h
  rw [hpath] at this
  exact absurd this (by simp [reclosedAt, relatchedFor])

theorem wentOn_found {s : State} {w : SwapContext} {c : Carrier} (hw : s.swap = some w)
    (hpath : w.pathReclosed = false) (hc : firstCarrier s w.bay = some c) (hne : c ≠ w.carrier) :
    WentOn s s.carrierLoss w := by
  rw [carrierLoss_found hw hpath hc]
  have hkept := putSwap_kept s (some { w with carrier := c, need := loadNeed s, best := bestOffer s w.bay })
  have hcheck := sameCheck_of_kept (x := w.bay) hkept (by simp) (by simp) (by simp)
  refine ⟨told_putSwap ?_, hkept.mono (by simp), rfl, fun d hd => ⟨?_, rfl⟩, fun hd => ?_⟩
  · rw [hw]
    intro h
    exact hne (congrArg SwapContext.carrier (Option.some.inj h)).symm
  · rw [hcheck.carrier, hc] at hd
    cases hd
    rw [hcheck.need, hcheck.best]
    rfl
  · rw [hcheck.carrier, hc] at hd
    cases hd

theorem lossNoted_kept (s : State) (w : SwapContext) : Kept [.bay w.bay, .swap, .news] s (lossNoted s w) :=
  (pathClosedAgain_kept s w.bay).append (putSwap_kept _ _)

theorem told_pathClosedAgain (s : State) (x : Bay) : Told s (pathClosedAgain s x) [] 0 :=
  told_of_kept (pathClosedAgain_kept s x) (by simp) (by simp) (by simp)

theorem wentOn_relatching {s : State} {w : SwapContext} (hi : Indexed s.notices.list) (hw : s.swap = some w)
    (hpath : w.pathReclosed = false) (hc : firstCarrier s w.bay = none) (hphase : w.phase = .relatching) :
    WentOn s s.carrierLoss w := by
  rw [carrierLoss_relatching hw hpath hc hphase]
  have hkept := lossNoted_kept s w
  have hcheck := sameCheck_of_kept (x := w.bay) hkept (by simp) (by simp) (by simp)
  have hswap : (pathClosedAgain s w.bay).swap ≠ some (reclosedAt w s) := by
    intro h
    have h : s.swap = some (reclosedAt w s) := h
    rw [hw] at h
    exact reclosedAt_ne hpath (Option.some.inj h).symm
  refine ⟨(told_pathClosedAgain s w.bay).trans hi (told_putSwap hswap), hkept.mono (by simp), rfl,
    fun d hd => ?_, fun _ => ⟨fun _ => ⟨?_, ?_⟩, fun hn => absurd hphase hn⟩⟩
  · rw [hcheck.carrier, hc] at hd
    cases hd
  · rw [reclosedAt_congr hcheck]
    rfl
  · rw [lossNoted, State.putSwap_bay, pathClosedAgain_bay]

theorem relatchBegun_kept (s : State) (w : SwapContext) (r : Option AbortReason) :
    Kept [.swap, .bay w.bay, .news] s (relatchBegun s w r) :=
  ((putSwap_kept s _).append (driveClose_kept _ w.bay)).mono (by simp)

/-- A drive to close tells of nothing but, with the news bit BAY, a latch that it moves (R71, R73). -/
theorem driveClose_news (s : State) (b : Bay) :
    (s.driveClose b).notices.news = s.notices.news ∨ (s.driveClose b).notices.news = s.notices.news ||| newsBay := by
  rw [State.driveClose, State.putBay_notices_news]
  split
  · exact .inr rfl
  · exact .inl rfl

theorem told_relatchBegun {s : State} {w : SwapContext} {r : Option AbortReason} (h : s.swap ≠ some (w.relatching r)) :
    Told s (relatchBegun s w r) [] newsBay := by
  refine told_nothing rfl rfl ?_
  have hswap := (told_putSwap h).news
  rcases driveClose_news (s.putSwap (some (w.relatching r))) w.bay with hn | hn
  · rw [relatchBegun, hn, State.putSwap_notices_news, if_neg h]
  · rw [relatchBegun, hn, State.putSwap_notices_news, if_neg h, BitVec.or_assoc, BitVec.or_self]

theorem wentOn_waits {s : State} {w : SwapContext} (hi : Indexed s.notices.list) (hw : s.swap = some w)
    (hpath : w.pathReclosed = false) (hc : firstCarrier s w.bay = none) (hphase : w.phase ≠ .relatching)
    (hlatch : ¬ s.latchedFor w) : WentOn s s.carrierLoss w := by
  rw [carrierLoss_waits hw hpath hc hphase hlatch]
  have hkept : Kept [.bay w.bay, .swap, .bay w.bay, .news] s
      (relatchBegun (pathClosedAgain s w.bay) (reclosedAt w s) (some .carrierLost)) :=
    (pathClosedAgain_kept s w.bay).append (relatchBegun_kept _ (reclosedAt w s) _)
  have hcheck := sameCheck_of_kept (x := w.bay) hkept (by simp) (by simp) (by simp)
  have hswap : (pathClosedAgain s w.bay).swap ≠ some ((reclosedAt w s).relatching (some .carrierLost)) := by
    intro h
    have h : s.swap = some (relatchedFor (reclosedAt w s) .carrierLost) := h
    rw [hw] at h
    exact relatchedFor_ne hpath _ (Option.some.inj h).symm
  refine ⟨(told_pathClosedAgain s w.bay).trans hi (told_relatchBegun hswap), hkept.mono (by simp), rfl,
    fun d hd => ?_, fun _ => ⟨fun hr => absurd hr hphase, fun _ => ⟨?_, ?_⟩⟩⟩
  · rw [hcheck.carrier, hc] at hd
    cases hd
  · rw [reclosedAt_congr hcheck]
    rfl
  · have hbay := relatchBegun_bay (pathClosedAgain s w.bay) (reclosedAt w s) (some .carrierLost)
    rw [drivenClosed_eq] at hbay
    refine hbay.trans ?_
    show drivenClosedAt ((pathClosedAgain s w.bay).bay w.bay) _ = _
    rw [pathClosedAgain_bay]
    rfl

/-- The loss of a carrier that another makes good, or that the latch outlasts, lets the release go on (R90, R91). -/
theorem wentOn_carrierLoss {s : State} {w : SwapContext} (hi : Indexed s.notices.list) (hw : s.swap = some w)
    (hpath : w.pathReclosed = false) (hlost : firstCarrier s w.bay ≠ some w.carrier)
    (hgoes : ¬ (firstCarrier s w.bay = none ∧ w.phase ≠ .relatching ∧ s.latchedFor w)) : WentOn s s.carrierLoss w := by
  cases hc : firstCarrier s w.bay with
  | some c => exact wentOn_found hw hpath hc (fun h => hlost (by rw [hc, h]))
  | none =>
    by_cases hphase : w.phase = .relatching
    · exact wentOn_relatching hi hw hpath hc hphase
    · exact wentOn_waits hi hw hpath hc hphase (fun hlatch => hgoes ⟨hc, hphase, hlatch⟩)

end Sys2Proof.Machine.PowerSources
end

section
/-! SUPPORT. A release that the loss of its carrier ends at once (R20, R83, R84, R85). -/

namespace Sys2Proof.Machine.PowerSources

/-! ### The report of an end aborted CARRIER_LOST (R85) -/

theorem answerAccepted_told (s : State) (k n : Nat) (st : Status) (r : Reason) (data : List Byte) :
    Told s (s.answerAccepted k n st r data) []
      (if s.slotOwner k = ownerAccepted ∧ s.acceptanceOf k = n then s.answerNews k else 0) := by
  have hkept := answerAccepted_kept s k n st r data
  refine told_nothing (hkept .clock (by simp)) (hkept .noticeList (by simp)) ?_
  unfold State.answerAccepted
  split
  · exact answer_news s k st r data
  · simp

/-- The posting of an end aborted CARRIER_LOST that no slot asked for (R85). -/
def lostPost (w : SwapContext) (serial : BitVec 64) : Post :=
  ⟨.releaseRefused, some w.bay, 1,
    leBytes 8 serial.toNat ++ [byte (reasonCode (abortReasonOf .carrierLost))] ++ leBytes 4 w.need ++ leBytes 4 w.best⟩

theorem reportEnd_slot {s : State} {w : SwapContext} {k n : Nat} (serial : BitVec 64) (h : w.requester = .slot k n) :
    s.reportEnd w serial (.aborted .carrierLost) =
      s.answerAccepted k n .aborted (abortReasonOf .carrierLost) (s.releaseEndData w) := by
  unfold State.reportEnd
  rw [h]
  rfl

theorem reportEnd_notice {s : State} {w : SwapContext} (serial : BitVec 64) (h : ∀ k n, w.requester ≠ .slot k n) :
    s.reportEnd w serial (.aborted .carrierLost) =
      s.post (lostPost w serial).kind (lostPost w serial).bay (lostPost w serial).flags (lostPost w serial).payload := by
  have hpost : s.postRefused w.bay serial (abortReasonOf .carrierLost) true w.need w.best =
      s.post (lostPost w serial).kind (lostPost w serial).bay (lostPost w serial).flags (lostPost w serial).payload := by
    simp only [State.postRefused, lostPost, bayPayload, flagBit, if_true, pow_zero, List.append_assoc]
  unfold State.reportEnd
  cases hr : w.requester with
  | slot k n => exact absurd hr (h k n)
  | button => exact hpost
  | nobody => exact hpost

theorem endPosts_slot {w : SwapContext} {k n : Nat} (serial : BitVec 64) (h : w.requester = .slot k n) (gone : Bool) :
    endPosts w serial (.aborted .carrierLost) gone = [] := by
  unfold endPosts
  rw [h]

theorem endPosts_notice {w : SwapContext} (serial : BitVec 64) (h : ∀ k n, w.requester ≠ .slot k n) (gone : Bool) :
    endPosts w serial (.aborted .carrierLost) gone = [lostPost w serial] := by
  unfold endPosts
  cases hr : w.requester with
  | slot k n => exact absurd hr (h k n)
  | button => rfl
  | nobody => rfl

theorem endBits_slot {s : State} {w : SwapContext} {k n : Nat} (h : w.requester = .slot k n) : s.endBits w =
    if s.slotOwner k = ownerAccepted ∧ s.acceptanceOf k = n then s.answerNews k else 0 := by
  unfold State.endBits
  rw [h]

theorem endBits_notice {s : State} {w : SwapContext} (h : ∀ k n, w.requester ≠ .slot k n) : s.endBits w = 0 := by
  unfold State.endBits
  cases hr : w.requester with
  | slot k n => exact absurd hr (h k n)
  | button => rfl
  | nobody => rfl

/-- Whether a slot asked. -/
theorem requester_cases (w : SwapContext) :
    (∃ k n, w.requester = .slot k n) ∨ ∀ k n, w.requester ≠ .slot k n := by
  cases w.requester with
  | slot k n => exact .inl ⟨k, n, rfl⟩
  | button => exact .inr (by simp)
  | nobody => exact .inr (by simp)

theorem reportEnd_told (s : State) (w : SwapContext) (serial : BitVec 64) :
    Told s (s.reportEnd w serial (.aborted .carrierLost)) (endPosts w serial (.aborted .carrierLost) false)
      (s.endBits w) := by
  rcases requester_cases w with ⟨k, n, hslot⟩ | hnone
  · rw [reportEnd_slot serial hslot, endPosts_slot serial hslot, endBits_slot hslot]
    exact answerAccepted_told s k n _ _ _
  · rw [reportEnd_notice serial hnone, endPosts_notice serial hnone, endBits_notice hnone]
    exact told_post s (lostPost w serial)

theorem reportEnd_within {s : State} (hi : Indexed s.notices.list) (w : SwapContext) (serial : BitVec 64) :
    BytesKept (endAreas w) s (s.reportEnd w serial (.aborted .carrierLost)) := by
  rcases requester_cases w with ⟨k, n, hslot⟩ | hnone
  · rw [reportEnd_slot serial hslot]
    refine (answerAccepted_bytesKept s k n _ _ _).mono ?_
    simp [endAreas, askerAreas, hslot]
  · rw [reportEnd_notice serial hnone]
    exact (post_within hi (lostPost w serial)).mono (by simp [endAreas])

theorem reportEnd_answered {s : State} {w : SwapContext} (hok : ∀ k n : Nat, w.requester = .slot k n → k < 24)
    (serial : BitVec 64) :
    EndAnswered s (s.reportEnd w serial (.aborted .carrierLost)) w (.aborted .carrierLost) := by
  rintro k ⟨hslot, howner⟩
  have hkept := reportEnd_kept s w serial (.aborted .carrierLost)
  have hbay : (s.reportEnd w serial (.aborted .carrierLost)).bay w.bay = s.bay w.bay := hkept (.bay w.bay) (by simp)
  have hdata : s.releaseEndData w = [byte (bayCode w.bay), byte (bayStateCode (s.bay w.bay).state),
      byte (latchCode (s.bay w.bay).latch), byte (carrierCode w.carrier), byte (phaseCode w.phase),
      byte ((if decide ((s.bay w.bay).state = .vacant) then 1 else 0) + if w.pathReclosed then 2 else 0), 0, 0] ++
        leBytes 4 w.need ++ leBytes 4 w.best := rfl
  have hanswer : s.reportEnd w serial (.aborted .carrierLost) =
      s.answer k .aborted (abortReasonOf .carrierLost) (s.releaseEndData w) := by
    rw [reportEnd_slot serial hslot]
    exact if_pos ⟨howner, rfl⟩
  have hanswered := answer_answered s k .aborted (abortReasonOf .carrierLost) (s.releaseEndData w) (hok _ _ hslot)
  rw [← hanswer, hdata] at hanswered
  rw [hbay]
  exact hanswered

/-! ### The slot that asked, across work that leaves it alone -/

/-- The slot that asks for a release, if one does, lies outside these areas. -/
def AskerApart (A : List Area) (w : SwapContext) : Prop := ∀ k n : Nat, w.requester = .slot k n → SlotApart A k

section
variable {A : List Area} {s t : State} {w : SwapContext}

theorem acceptanceOf_of_kept {L : List Part} (h : Kept L s t) (ha : Part.acceptance ∉ L) (k : Nat) :
    t.acceptanceOf k = s.acceptanceOf k := by
  rw [State.acceptanceOf, State.acceptanceOf, show t.port.acceptance = s.port.acceptance from h _ ha]

theorem endBits_congr (hb : BytesKept A s t) (hA : AskerApart A w)
    (hacc : ∀ k, t.acceptanceOf k = s.acceptanceOf k) : t.endBits w = s.endBits w := by
  rcases requester_cases w with ⟨k, n, hslot⟩ | hnone
  · have hk := hA k n hslot
    rw [endBits_slot hslot, endBits_slot hslot, slotOwner_of_bytesKept hb hk, hacc, answerNews_of_bytesKept hb hk]
  · rw [endBits_notice hnone, endBits_notice hnone]

/-- The answer of an end, from a state before work that leaves the slots alone. -/
theorem endAnswered_before {u : State} {e : ReleaseEnd} (hb : BytesKept A s t) (hA : AskerApart A w)
    (hacc : ∀ k, t.acceptanceOf k = s.acceptanceOf k) (h : EndAnswered t u w e) :
    EndAnswered s u w e := by
  rintro k ⟨hslot, howner⟩
  refine h k ⟨by rw [hacc]; exact hslot, ?_⟩
  rw [slotOwner_of_bytesKept hb (hA _ _ hslot), howner]

/-- The answer of an end, at a state after work that leaves the slots alone. -/
theorem endAnswered_after {r : State} {e : ReleaseEnd} (hb : BytesKept A s t) (hA : AskerApart A w)
    (hup : t.uptime = s.uptime) (hbay : t.bay w.bay = s.bay w.bay) (h : EndAnswered r s w e) :
    EndAnswered r t w e := by
  intro k hk
  have := h k hk
  rw [hbay]
  exact answered_of_bytesKept hb (hA _ _ hk.1) hup this

end

/-! ### The end without its report -/

/-- A job that joins changes the link by rule: on an idle link its transaction starts, on any other it waits (R28, R32,
R33). -/
theorem joined_join {s : State} (hl : s.link.Agrees) (b : Bay) (v : Work) : Joined s (s.join b v) b v := by
  unfold Joined
  split
  · rename_i hidle
    unfold PackLink.Agrees at hl
    rw [hidle] at hl
    obtain ⟨hflight, hwaiting, -⟩ := hl
    unfold State.join
    simp only [hidle, if_true, State.arbitrate, hflight, hwaiting, Option.isSome_none, Bool.false_or,
      decide_eq_true_eq, reduceCtorEq, if_false, List.nil_append, soonest]
    simp only [State.startJob, joiner, List.erase_cons_head]
    rfl
  · unfold State.join
    rw [if_neg ‹_›]
    rfl

theorem pollJoined_poll {s : State} (hl : s.link.Agrees) (b : Bay) : PollJoined s (s.poll b) b := by
  unfold PollJoined State.poll
  split
  · rfl
  · exact joined_join hl b .gauge

theorem pollJoined_congr {s s' t t' : State} {b : Bay} (hs : s'.link = s.link) (hl : t'.link = t.link)
    (hc : t'.clock = t.clock) (hb : t'.bay b = t.bay b) (h : PollJoined s t b) : PollJoined s' t' b := by
  unfold PollJoined Joined joiner at *
  simpa only [hs, hl, hc, hb] using h

/-- The context of a release that the loss of its carrier relatches (R83, R91). -/
def lostContext (s : State) (w : SwapContext) : SwapContext := relatchedFor (reclosedAt w s) .carrierLost

theorem lostContext_congr {s t : State} {w : SwapContext} (h : SameCheck s t w.bay) : lostContext t w = lostContext s w := by
  rw [lostContext, lostContext, reclosedAt_congr h]

/-- The state in which such a release relatches (R83, R91). -/
def lossRelatching (s : State) (w : SwapContext) : State := (pathClosedAgain s w.bay).putSwap (some (lostContext s w))

/-- Bay X back ONLINE, with its path switch closed (R3, R84). -/
def backOnline (s : State) (w : SwapContext) : State :=
  (lossRelatching s w).enterOnline w.bay ((lossRelatching s w).bay w.bay)

/-- The end of such a release before its report (R85). -/
def endedQuietly (s : State) (w : SwapContext) : State :=
  ((backOnline s w).putSwap none).holdRemove (.latch (otherBay w.bay)) .swap

section
variable (s : State) (w : SwapContext)

theorem lossRelatching_bay : (lossRelatching s w).bay w.bay = { s.bay w.bay with pathClosed := true } :=
  pathClosedAgain_bay s w.bay

theorem lossRelatching_kept : Kept [.bay w.bay, .swap, .news] s (lossRelatching s w) :=
  (pathClosedAgain_kept s w.bay).append (putSwap_kept _ _)

theorem backOnline_bay : (backOnline s w).bay w.bay = onlineAgain (s.bay w.bay) s.clock := by
  have hpoll := poll_kept ((lossRelatching s w).putBay w.bay
    (((lossRelatching s w).bay w.bay).onlined (lossRelatching s w).clock)) w.bay
  have hsame : (backOnline s w).bay w.bay = _ := hpoll (.bay w.bay) (by simp)
  rw [hsame, State.bay_putBay, lossRelatching_bay]
  rfl

theorem backOnline_kept : Kept [.bay w.bay, .swap, .news, .link] s (backOnline s w) :=
  ((lossRelatching_kept s w).append (enterOnline_kept _ w.bay _)).mono (by simp)

theorem endedQuietly_bay : (endedQuietly s w).bay w.bay = onlineAgain (s.bay w.bay) s.clock := backOnline_bay s w

theorem endedQuietly_kept : Kept [.bay w.bay, .swap, .news, .link, .holds] s (endedQuietly s w) :=
  (((backOnline_kept s w).append (putSwap_kept _ none)).append (holdRemove_kept_bright _ _ _ (by simp))).mono (by simp)

theorem endedQuietly_memory : (endedQuietly s w).port.memory = s.port.memory := by
  show (backOnline s w).port.memory = _
  rw [backOnline, enterOnline_memory]
  rfl

theorem endedQuietly_entries : (endedQuietly s w).holds.entries = withoutSwap w s.holds.entries := by
  have hentries : (backOnline s w).holds.entries = s.holds.entries := backOnline_kept s w .holds (by simp)
  show removeEntry _ _ (backOnline s w).holds.entries = _
  rw [hentries]
  rfl

theorem endedQuietly_pollJoined (hl : s.link.Agrees) : PollJoined s (endedQuietly s w) w.bay :=
  pollJoined_congr (t := backOnline s w) rfl rfl rfl rfl (pollJoined_poll (s := (lossRelatching s w).putBay w.bay
    (((lossRelatching s w).bay w.bay).onlined (lossRelatching s w).clock)) hl w.bay)

/-- The entry to ONLINE of a bay in another state tells of it with the news bit BAY (R4). -/
theorem told_enterOnline (t : State) (b : Bay) (c : BayContext) (h : (t.bay b).state ≠ .online) :
    Told t (t.enterOnline b c) [] newsBay := by
  have hnews : bayNews (t.bay b) (c.onlined t.clock) = true := by simp [bayNews, BayContext.onlined, h]
  have hput : Told t (t.putBay b (c.onlined t.clock)) [] newsBay :=
    told_nothing rfl rfl (by rw [State.putBay_notices_news, if_pos hnews])
  have hpoll := poll_kept (t.putBay b (c.onlined t.clock)) b
  have hlist : (t.enterOnline b c).notices.list = _ := hpoll .noticeList (by simp)
  have hsame : (t.enterOnline b c).notices.news = _ := hpoll .news (by simp)
  exact told_nothing (hpoll .clock (by simp)) (hlist.trans hput.list) (by rw [hsame]; simpa [State.postBits] using hput.news)

variable {s w}

theorem endedQuietly_told (hi : Indexed s.notices.list) (hw : s.swap = some w) (hpath : w.pathReclosed = false)
    (hstate : (s.bay w.bay).state = .releasing) : Told s (endedQuietly s w) [] newsBay := by
  have hne : (pathClosedAgain s w.bay).swap ≠ some (lostContext s w) := by
    intro h
    have h : s.swap = some (lostContext s w) := h
    rw [hw] at h
    exact relatchedFor_ne hpath _ (Option.some.inj h).symm
  have hrelatch : Told s (lossRelatching s w) [] newsBay := (told_pathClosedAgain s w.bay).trans hi (told_putSwap hne)
  have hreleasing : ((lossRelatching s w).bay w.bay).state ≠ .online := by
    rw [lossRelatching_bay]
    simp [hstate]
  have honline : Told s (backOnline s w) [] newsBay :=
    hrelatch.trans hi (told_enterOnline _ w.bay _ hreleasing)
  have hswap : (backOnline s w).swap ≠ none := by
    have : (backOnline s w).swap = some (lostContext s w) :=
      enterOnline_kept (lossRelatching s w) w.bay _ .swap (by simp)
    simp [this]
  have hcleared : Told s ((backOnline s w).putSwap none) [] newsBay := honline.trans hi (told_putSwap hswap)
  exact hcleared.trans hi (told_of_kept (holdRemove_kept_bright _ _ _ (by simp)) (by simp) (by simp) (by simp))

theorem carrierLoss_ended (hw : s.swap = some w) (hpath : w.pathReclosed = false) (hc : firstCarrier s w.bay = none)
    (hphase : w.phase ≠ .relatching) (hlatch : s.latchedFor w) :
    s.carrierLoss =
      (endedQuietly s w).reportEnd (lostContext s w) (s.serial w.bay) (.aborted .carrierLost) := by
  have hserial : (lossRelatching s w).serial w.bay = s.serial w.bay := by
    rw [State.serial, lossRelatching_bay]
    rfl
  have hshut : ((endedQuietly s w).bay w.bay).latch = (s.bay w.bay).latch := by
    rw [endedQuietly_bay]
    rfl
  have hdriven : (endedQuietly s w).driveClose w.bay = endedQuietly s w :=
    driveClose_of_not_opening (by rw [hshut]; rcases hlatch with h | h <;> simp [h])
      (by rw [hshut]; rcases hlatch with h | h <;> simp [h])
  have hcomplete : (lossRelatching s w).relatchComplete (lostContext s w) =
      ((endedQuietly s w).driveClose w.bay).reportEnd (lostContext s w) ((lossRelatching s w).serial w.bay)
        (.aborted .carrierLost) := rfl
  rw [carrierLoss_relatches hw hpath hc hphase, enterRelatching_ends _ (latchedFor_pathClosedAgain.2 hlatch)]
  show (lossRelatching s w).relatchComplete (lostContext s w) = _
  rw [hcomplete, hdriven, hserial]

/-- What the loss of a carrier leaves of a release that it ends at once (R83 to R85, R91). -/
structure EndedNow (s t : State) (w : SwapContext) : Prop where
  swap : t.swap = none
  bay : t.bay w.bay = onlineAgain (s.bay w.bay) s.clock
  entries : t.holds.entries = withoutSwap w s.holds.entries
  told : Told s t (abortPosts s (lostContext s w) .carrierLost) (newsBay ||| s.endBits w)
  kept : Kept [.swap, .bay w.bay, .holds, .link, .noticeList, .news] s t
  bytes : BytesKept (endAreas w) s t
  answered : (∀ k n : Nat, w.requester = .slot k n → k < 24) → EndAnswered s t (lostContext s w) (.aborted .carrierLost)
  polled : s.link.Agrees → PollJoined s t w.bay

theorem endedNow_carrierLoss (hi : Indexed s.notices.list) (hw : s.swap = some w) (hpath : w.pathReclosed = false)
    (hstate : (s.bay w.bay).state = .releasing) (hc : firstCarrier s w.bay = none) (hphase : w.phase ≠ .relatching)
    (hlatch : s.latchedFor w) : EndedNow s s.carrierLoss w := by
  rw [carrierLoss_ended hw hpath hc hphase hlatch]
  have hreport := reportEnd_kept (endedQuietly s w) (lostContext s w) (s.serial w.bay) (.aborted .carrierLost)
  have hquiet := endedQuietly_kept s w
  have htold := endedQuietly_told hi hw hpath hstate
  have hbytes : BytesKept [] s (endedQuietly s w) := BytesKept.of_memory (endedQuietly_memory s w)
  have hapart : AskerApart [] (lostContext s w) := fun _ _ _ r hr => absurd hr (by simp)
  have hacc := acceptanceOf_of_kept hquiet (by simp)
  refine
    { swap := hreport .swap (by simp)
      bay := Eq.trans (hreport (.bay w.bay) (by simp)) (endedQuietly_bay s w)
      entries := Eq.trans (hreport .holds (by simp)) (endedQuietly_entries s w)
      told := ?_
      kept := (hquiet.append hreport).mono (by simp)
      bytes := hbytes.append (reportEnd_within (htold.indexed hi) (lostContext s w) _)
      answered := fun hok => endAnswered_before hbytes hapart hacc (reportEnd_answered (w := lostContext s w) hok _)
      polled := fun hl => pollJoined_congr rfl (hreport .link (by simp)) (hreport .clock (by simp))
        (hreport (.bay w.bay) (by simp)) (endedQuietly_pollJoined s w hl) }
  have hbits : (endedQuietly s w).endBits (lostContext s w) = s.endBits w := endBits_congr hbytes hapart hacc
  have := htold.trans hi (reportEnd_told (endedQuietly s w) (lostContext s w) (s.serial w.bay))
  rw [hbits] at this
  exact this

end

end Sys2Proof.Machine.PowerSources
end

section
/-! SUPPORT. BUDGET_STEP, from its stages to its notices (R51 to R61, R63, R67, R91, R124). -/

namespace Sys2Proof.Machine.PowerSources

/-! ### The parts of a budget step, in order -/

/-- The state after stages 1 to 6, without their notices (R51). -/
def staged (s : State) : State := (s.reach s.power.budgetDue).budgetStages

/-- The state after the warnings of stage 6 (R60, R61). -/
def warned (s : State) : State := (staged s).bridgeWarnings s.power

/-- The state after stage 8, from the one that stage 7 leaves (R55). -/
def sourced (s m : State) : State := m.sourceNotice s.power.mode (supplyingBays s.bayA s.bayB)

/-- The state at the end of the command, from the one that stage 7 leaves (R64). -/
def budgetDone (s m : State) : State := State.refresh s { sources := true } (sourced s m).driveLines

theorem exec_budgetStep (s : State) : exec .budgetStep s = .next (budgetDone s (warned s).bridgeTest) := rfl

theorem staged_kept (s : State) : Kept [.clock, .power, .bright] s (staged s) := by
  intro p hp
  cases p <;> first | rfl | simp at hp

theorem staged_power (s : State) : (staged s).power = budgetUnit s s.power.hibernate := by
  simp only [staged, State.budgetStages, budgetUnit, State.reach_power, State.reach_bright, State.reach_bayA,
    State.reach_bayB]
  rfl

theorem staged_bright (s : State) :
    (staged s).bright = s.bright.allowanceEvent s.power.allowance (staged s).power.allowance := by
  simp only [staged, State.budgetStages, State.reach_power, State.reach_bright, State.reach_bayA, State.reach_bayB]

/-! ### Notices on a condition -/

/-- A notice posted on a condition, and news bits set with it. -/
def announce (s : State) (c : Bool) (p : Post) (bits : Byte) : State :=
  if c then (s.post p.kind p.bay p.flags p.payload).setNews bits else s

theorem announce_kept (s : State) (c : Bool) (p : Post) (bits : Byte) :
    Kept [.noticeList, .news] s (announce s c p bits) := by
  unfold announce
  split
  · exact ((post_kept s _ _ _ _).append (setNews_kept _ bits)).mono (by simp)
  · exact (Kept.refl s).mono (by simp)

theorem announce_within {s : State} (hi : Indexed s.notices.list) (c : Bool) (p : Post) (bits : Byte) :
    BytesKept [noticesArea] s (announce s c p bits) := by
  unfold announce
  split
  · exact post_within hi p
  · exact (BytesKept.refl s).mono (by simp)

theorem told_announce {s : State} (hi : Indexed s.notices.list) (c : Bool) (p : Post) (bits : Byte) :
    Told s (announce s c p bits) (if c then [p] else []) (if c then bits else 0) := by
  unfold announce
  split
  · simpa using (told_post s p).trans hi (told_setNews _ bits)
  · exact Told.refl s

/-! ### The warnings of stage 6 (R60, R61) -/

/-- Whether a step sets the bridge-low-posted mark (R60). -/
def lowSet (s u : State) : Bool := u.power.lowPosted && !s.power.markedLow

/-- Whether a step sets the bridge-critical mark (R61). -/
def criticalSet (s u : State) : Bool := u.power.critical && !s.power.markedCritical

/-- The notice BRIDGE_LOW at a state (R60). -/
def lowPost (u : State) : Post := ⟨.bridgeLow, none, 0, bridgePayload u.power⟩

/-- The notice BRIDGE_CRITICAL at a state (R61). -/
def criticalPost (u : State) : Post := ⟨.bridgeCritical, none, 0, bridgePayload u.power⟩

theorem lowSet_iff (s u : State) : lowSet s u = true ↔
    u.power.lowPosted = true ∧ ¬ (s.power.mode = .bridge ∧ s.power.lowPosted = true) := by
  simp [lowSet, PowerUnit.markedLow, imp_iff_not_or]

theorem criticalSet_iff (s u : State) : criticalSet s u = true ↔
    u.power.critical = true ∧ ¬ (s.power.mode = .bridge ∧ s.power.critical = true) := by
  simp [criticalSet, PowerUnit.markedCritical, imp_iff_not_or]

theorem bridgePosts_eq (s u : State) : bridgePosts s u =
    (if lowSet s u then [lowPost u] else []) ++ (if criticalSet s u then [criticalPost u] else []) := by
  simp only [bridgePosts, ← lowSet_iff, ← criticalSet_iff]
  rfl

theorem setNews_zero (s : State) : s.setNews 0 = s := by simp [State.setNews]

theorem bridgeWarnings_eq (s u : State) : u.bridgeWarnings s.power =
    announce (announce u (lowSet s u) (lowPost u) 0) (criticalSet s u) (criticalPost u) newsPower := by
  have hfirst : announce u (lowSet s u) (lowPost u) 0 =
      if u.power.lowPosted && !s.power.markedLow then u.post .bridgeLow none 0 (bridgePayload u.power) else u := by
    unfold announce lowSet
    split
    · exact setNews_zero _
    · rfl
  have hkept := announce_kept u (lowSet s u) (lowPost u) 0
  have hpower : (announce u (lowSet s u) (lowPost u) 0).power = u.power :=
    powerUnit_ext (hkept .power (by simp)) (hkept .hibernate (by simp))
  unfold State.bridgeWarnings
  rw [← hfirst]
  dsimp only
  rw [hpower]
  rfl

theorem bridgeWarnings_kept (s u : State) : Kept [.noticeList, .news] u (u.bridgeWarnings s.power) := by
  rw [bridgeWarnings_eq]
  exact (announce_kept u _ _ _).trans (announce_kept _ _ _ _)

theorem bridgeWarnings_within {u : State} (s : State) (hi : Indexed u.notices.list) :
    BytesKept [noticesArea] u (u.bridgeWarnings s.power) := by
  rw [bridgeWarnings_eq]
  exact (announce_within hi _ _ _).trans (announce_within ((told_announce hi _ _ _).indexed hi) _ _ _)

theorem told_bridgeWarnings {u : State} (s : State) (hi : Indexed u.notices.list) :
    Told u (u.bridgeWarnings s.power) (bridgePosts s u) (if criticalSet s u then newsPower else 0) := by
  have hlow := told_announce hi (lowSet s u) (lowPost u) 0
  have hcritical := told_announce (hlow.indexed hi) (criticalSet s u) (criticalPost u) newsPower
  rw [bridgeWarnings_eq, bridgePosts_eq]
  simpa using hlow.trans hi hcritical

/-! ### The notice of stage 8 (R55) -/

/-- Whether a step changes the supply mode (R55). -/
def modeSet (s m : State) : Bool := decide (m.power.mode ≠ s.power.mode)

/-- The notice SOURCE_CHANGE at a state (R55). -/
def sourcePost (s m : State) : Post :=
  ⟨.sourceChange, none, 0, sourcePayload s.power.mode m.power (supplyingBays s.bayA s.bayB)⟩

theorem sourced_eq (s m : State) : sourced s m = announce m (modeSet s m) (sourcePost s m) newsPower := by
  unfold sourced State.sourceNotice announce
  by_cases hmode : m.power.mode = s.power.mode
  · rw [if_pos hmode, if_neg (by simp [modeSet, hmode])]
  · rw [if_neg hmode, if_pos (by simp [modeSet, hmode])]
    rfl

theorem sourcePosts_eq (s m : State) : sourcePosts s m = if modeSet s m then [sourcePost s m] else [] := by
  by_cases hmode : m.power.mode = s.power.mode
  · exact (if_pos hmode).trans (if_neg (by simp [modeSet, hmode])).symm
  · exact (if_neg hmode).trans (if_pos (by simp [modeSet, hmode])).symm

theorem told_sourced {m : State} (s : State) (hi : Indexed m.notices.list) :
    Told m (sourced s m) (sourcePosts s m) (if modeSet s m then newsPower else 0) := by
  rw [sourced_eq, sourcePosts_eq]
  exact told_announce hi _ _ _

theorem sourced_kept (s m : State) : Kept [.noticeList, .news] m (sourced s m) := by
  rw [sourced_eq]
  exact announce_kept m _ _ _

theorem sourced_within {m : State} (s : State) (hi : Indexed m.notices.list) : BytesKept [noticesArea] m (sourced s m) := by
  rw [sourced_eq]
  exact announce_within hi _ _ _

theorem budgetNews_eq (s t : State) : budgetNews s t =
    (if criticalSet s t then newsPower else 0) ||| (if modeSet s t then newsPower else 0) := by
  have hmode : t.power.mode ≠ s.power.mode ↔ modeSet s t = true := by simp [modeSet]
  simp only [budgetNews, ← criticalSet_iff, hmode]
  cases criticalSet s t <;> cases modeSet s t <;> decide

end Sys2Proof.Machine.PowerSources
end

section
/-! SUPPORT. BUDGET_STEP as a whole (R51 to R61, R63, R67, R91, R124). -/

namespace Sys2Proof.Machine.PowerSources

/-! ### What stage 7 leaves alone -/

/-- The parts that stage 7 may change: those of a release and of its end (R67, R91). -/
def releaseParts : List Part := [.swap, .bay .a, .bay .b, .holds, .link]

/-- What stage 7 does between the warnings and the notice of the mode (R67). -/
structure Tested (s m : State) (posts : List Post) (bits : Byte) (parts : List Part) (areas : List Area) : Prop where
  told : Told (warned s) m posts bits
  release : parts ⊆ releaseParts
  kept : Kept (parts ++ [.noticeList, .news]) (warned s) m
  bytes : BytesKept (areas ++ [noticesArea]) (warned s) m
  storage : m.holds.inForce .storage = s.holds.inForce .storage
  bays : ∀ b, m.bay b ≠ s.bay b ∨ m.swapOf b ≠ s.swapOf b → bayArea b ∈ areas
  entries : m.holds.entries ≠ s.holds.entries → holdArea ∈ areas

/-- What the statement says of the notices, the news and the frame of a budget step. -/
def Stepped (s t : State) (posts : List Post) (news : Byte) (parts : List Part) (areas : List Area) : Prop :=
  PostedMany s t posts ∧ t.notices.news = s.notices.news ||| s.postBits posts.length ||| budgetNews s t ||| news ∧
    Kept (parts ++ [.clock, .power, .hibernate, .bright, .noticeList, .news, .attention]) s t ∧
    BytesKept (areas ++ [sourcesArea, brightArea, noticesArea]) s t

theorem indexed_staged {s : State} (hi : Indexed s.notices.list) : Indexed (staged s).notices.list := hi

theorem told_warned {s : State} (hi : Indexed s.notices.list) :
    Told (staged s) (warned s) (bridgePosts s (staged s)) (if criticalSet s (staged s) then newsPower else 0) :=
  told_bridgeWarnings s hi

theorem warned_kept (s : State) : Kept [.clock, .power, .bright, .noticeList, .news] s (warned s) :=
  (staged_kept s).append (bridgeWarnings_kept s (staged s))

theorem warned_within {s : State} (hi : Indexed s.notices.list) : BytesKept [noticesArea] s (warned s) := by
  have hstaged : BytesKept [] s (staged s) := BytesKept.of_memory rfl
  exact hstaged.append (bridgeWarnings_within s (indexed_staged hi))

theorem warned_power (s : State) : (warned s).power = (staged s).power := by
  have hkept := bridgeWarnings_kept s (staged s)
  exact powerUnit_ext (hkept .power (by simp)) (hkept .hibernate (by simp))

theorem not_mem_of_release {parts : List Part} (h : parts ⊆ releaseParts) {p : Part} (hp : p ∉ releaseParts) : p ∉ parts :=
  fun hm => hp (h hm)

section
variable {s m : State} {posts : List Post} {bits : Byte} {parts : List Part} {areas : List Area}
  (hi : Indexed s.notices.list) (h : Tested s m posts bits parts areas)
include h

theorem Tested.sourced_kept_warned : Kept (parts ++ [.noticeList, .news]) (warned s) (sourced s m) :=
  h.kept.trans ((sourced_kept s m).mono (by simp))

theorem Tested.sourced_kept : Kept (parts ++ [.clock, .power, .bright, .noticeList, .news]) s (sourced s m) :=
  ((warned_kept s).append h.sourced_kept_warned).mono (by simp)

theorem Tested.power : m.power = (staged s).power := by
  rw [← warned_power]
  have hp := not_mem_of_release h.release (p := .power) (by decide)
  have hl := not_mem_of_release h.release (p := .hibernate) (by decide)
  exact powerUnit_ext (h.kept .power (by simp [hp])) (h.kept .hibernate (by simp [hl]))

theorem Tested.sourced_power : (sourced s m).power = (staged s).power := by
  rw [← h.power]
  exact powerUnit_ext (PowerSources.sourced_kept s m .power (by simp)) (PowerSources.sourced_kept s m .hibernate (by simp))

theorem Tested.done_power :
    (budgetDone s m).power = budgetUnit s (sourced s m).hibernateLevel := by
  rw [budgetDone, finished_power, h.sourced_power, staged_power, budgetUnit_line]

include hi

theorem Tested.told_all : Told (staged s) (sourced s m) (bridgePosts s (staged s) ++ posts ++ sourcePosts s m)
    ((if criticalSet s (staged s) then newsPower else 0) ||| bits ||| (if modeSet s m then newsPower else 0)) := by
  have hwarned := told_warned hi
  have htested := hwarned.trans (indexed_staged hi) h.told
  exact htested.trans (indexed_staged hi) (told_sourced s (htested.indexed (indexed_staged hi)))

end

/-! ### The notices and the news of the whole step -/

/-- A power unit that differs in its line alone shows the same in the notices of a step. -/
theorem posts_line {s u t : State} {line : Bool} (ht : t.power = { u.power with hibernate := line }) :
    bridgePosts s t = bridgePosts s u ∧ sourcePosts s t = sourcePosts s u ∧ budgetNews s t = budgetNews s u := by
  refine ⟨?_, ?_, ?_⟩
  · unfold bridgePosts
    rw [ht]
    rfl
  · unfold sourcePosts
    rw [ht]
    rfl
  · unfold budgetNews
    rw [ht]
    rfl

/-- A change of the bridge-critical mark comes with a change of mode or with BRIDGE_CRITICAL, since an episode that goes on
keeps the mark (R60, R61). -/
theorem budgetNews_of_critical {s t : State} (hepisode : s.EpisodeAgrees) (hfigures : BudgetFigures s t)
    (hne : t.power.critical ≠ s.power.critical) : budgetNews s t = newsPower := by
  obtain ⟨-, -, -, -, -, -, -, -, -, -, -, -, -, hafter, -⟩ := hfigures
  refine if_pos ?_
  by_contra hnone
  push Not at hnone
  obtain ⟨hmode, hmark⟩ := hnone
  cases hbefore : s.power.critical with
  | false =>
    have hnow : t.power.critical = true := by simpa [hbefore] using hne
    exact absurd (hmark hnow).2 (by simp [hbefore])
  | true =>
    have hnow : t.power.critical = false := by simpa [hbefore] using hne
    obtain ⟨e, he, hcritical⟩ : ∃ e, s.power.episode = some e ∧ e.critical = true := by
      unfold PowerUnit.critical at hbefore
      split at hbefore
      · exact ⟨_, ‹_›, hbefore⟩
      · cases hbefore
    have hbridge : s.power.mode = .bridge := hepisode (by rw [he]; rfl)
    rw [hmode, if_pos hbridge, if_pos hbridge, he] at hafter
    unfold PowerUnit.critical at hnow
    rw [hafter] at hnow
    simp [hcritical] at hnow

section
variable {s m : State} {posts : List Post} {bits : Byte} {parts : List Part} {areas : List Area}
  (h : Tested s m posts bits parts areas)
include h

theorem Tested.figures : BudgetFigures s (budgetDone s m) := budgetFigures_of_power h.done_power

theorem Tested.done_line :
    (budgetDone s m).power = { (staged s).power with hibernate := (sourced s m).hibernateLevel } := by
  rw [h.done_power, staged_power, budgetUnit_line]

theorem Tested.done_hibernate :
    (budgetDone s m).power.hibernate = ((budgetDone s m).power.critical && (s.power.platform != .off)) := by
  have hplatform : (sourced s m).power.platform = s.power.platform := by rw [h.sourced_power]; rfl
  show (sourced s m).hibernateLevel = ((sourced s m).power.critical && _)
  rw [State.hibernateLevel, hplatform]

theorem Tested.accounted : Accounted s (budgetDone s m) := by
  have hclock : (sourced s m).clock = (staged s).clock :=
    Eq.trans (PowerSources.sourced_kept s m .clock (by simp))
      (h.told.clock.trans (bridgeWarnings_kept s (staged s) .clock (by simp)))
  have hbright : (sourced s m).bright = (staged s).bright := by
    have hp := not_mem_of_release h.release (p := .bright) (by decide)
    exact Eq.trans (h.sourced_kept_warned .bright (by simp [hp])) (bridgeWarnings_kept s (staged s) .bright (by simp))
  refine ⟨hclock, h.figures, h.done_hibernate, ?_⟩
  have hallowance : (budgetDone s m).power.allowance = (staged s).power.allowance := by rw [h.done_line]
  show (sourced s m).bright = _
  rw [hbright, staged_bright, allowanceEvent_eq, hallowance]

end

theorem or_absorb (a p b : Byte) : a ||| p ||| b ||| p = a ||| p ||| b := by
  rw [BitVec.or_assoc (a ||| p), BitVec.or_comm b, ← BitVec.or_assoc (a ||| p), BitVec.or_assoc a, BitVec.or_self]

theorem inForce_congr {g h : HoldSet} (he : g.entries = h.entries) (kind : HoldKind) : g.inForce kind = h.inForce kind := by
  rw [inForce_eq_any, inForce_eq_any, he]

theorem driveLines_holds_same {s a : State} (hs : s.LinesHold) (he : a.holds.entries = s.holds.entries)
    (hg : a.storageGuardLevel = s.storageGuardLevel) : a.driveLines.holds = s.holds := by
  obtain ⟨-, hguard, -⟩ := hs
  rw [State.driveLines_holds, hg, ← hguard]
  cases hh : s.holds
  rw [hh] at he
  cases he
  rfl

section
variable {s m : State} {posts : List Post} {bits : Byte} {parts : List Part} {areas : List Area}
  (h : Tested s m posts bits parts areas)
include h

theorem Tested.guard : (sourced s m).storageGuardLevel = s.storageGuardLevel := by
  refine storageGuardLevel_congr (by rw [h.sourced_power]; rfl) ?_
  exact (inForce_congr (PowerSources.sourced_kept s m .holds (by simp)) .storage).trans h.storage

theorem Tested.done_kept (hs : s.LinesHold) :
    Kept (parts ++ [.clock, .power, .hibernate, .bright, .noticeList, .news, .attention]) s (budgetDone s m) := by
  have hline : (sourced s m).power.hibernate = s.power.hibernate := by rw [h.sourced_power]; rfl
  exact kept_finished _ hs h.sourced_kept (by simp) hline (.inl (by simp)) (fun _ => h.guard) (by simp)

theorem Tested.done_bytes (hs : s.LinesHold) (hi : Indexed s.notices.list) :
    BytesKept (areas ++ [sourcesArea, brightArea, noticesArea]) s (budgetDone s m) := by
  have hm : Indexed m.notices.list := h.told.indexed ((told_warned hi).indexed (indexed_staged hi))
  have hbytes := ((warned_within hi).append h.bytes).append (sourced_within s hm)
  have hdrop := not_mem_of_release h.release (p := .drop) (by decide)
  refine bytesKept_finished _ hbytes (by simp) ⟨rfl, rfl, rfl⟩ (h.sourced_kept .drop (by simp [hdrop])) (by simp) ?_
    (by simp) ?_
  · intro b hb
    have hbay : (sourced s m).bay b = m.bay b := PowerSources.sourced_kept s m (.bay b) (by simp)
    have hswap := swapOf_congr (PowerSources.sourced_kept s m .swap (by simp)) b
    rw [hbay, hswap] at hb
    simp [h.bays b hb]
  · intro hholds
    have hentries : (sourced s m).holds.entries = m.holds.entries := PowerSources.sourced_kept s m .holds (by simp)
    have hne : m.holds.entries ≠ s.holds.entries := fun he =>
      hholds (driveLines_holds_same hs (hentries.trans he) h.guard)
    simp [h.entries hne]

theorem Tested.done_news (hs : s.LinesHold) (hi : Indexed s.notices.list) (hepisode : s.EpisodeAgrees) :
    (budgetDone s m).notices.news = s.notices.news |||
      s.postBits (bridgePosts s (staged s) ++ posts ++ sourcePosts s m).length ||| budgetNews s (budgetDone s m) |||
      bits := by
  obtain ⟨-, -, hbits⟩ := posts_line (s := s) h.done_line
  have hmode : modeSet s (staged s) = modeSet s m := by rw [modeSet, modeSet, h.power]
  have hnews : (sourced s m).notices.news = s.notices.news |||
      s.postBits (bridgePosts s (staged s) ++ posts ++ sourcePosts s m).length ||| budgetNews s (budgetDone s m) |||
      bits := by
    rw [(h.told_all hi).news, hbits, budgetNews_eq, hmode]
    show s.notices.news ||| s.postBits _ ||| _ = _
    ac_rfl
  have hline : (sourced s m).power.hibernate = s.power.hibernate := by rw [h.sourced_power]; rfl
  have hdone : (budgetDone s m).notices.news = if (sourced s m).hibernateLevel = (sourced s m).power.hibernate then
      (sourced s m).notices.news else (sourced s m).notices.news ||| newsPower := rfl
  rw [hdone, hnews]
  split
  · rfl
  · rename_i hlevel
    have hne : (budgetDone s m).power.critical ≠ s.power.critical := by
      intro hsame
      apply hlevel
      have hdone : (sourced s m).hibernateLevel = _ := h.done_hibernate
      rw [hdone, hsame, hline]
      exact hs.2.2.symm
    rw [budgetNews_of_critical hepisode h.figures hne, or_absorb]

end

/-- What stage 7 leaves makes the notices, the news and the frame of the whole step. -/
theorem Tested.stepped {s m : State} {posts : List Post} {bits : Byte} {parts : List Part} {areas : List Area}
    (h : Tested s m posts bits parts areas) (hs : s.LinesHold) (hi : Indexed s.notices.list)
    (hepisode : s.EpisodeAgrees) :
    Stepped s (budgetDone s m) (bridgePosts s (budgetDone s m) ++ posts ++ sourcePosts s (budgetDone s m)) bits parts
      areas := by
  have htold := h.told_all hi
  obtain ⟨hwarnings, hsource, -⟩ := posts_line (s := s) h.done_line
  have hmode : sourcePosts s (staged s) = sourcePosts s m := by
    unfold sourcePosts
    rw [h.power]
  rw [hwarnings, hsource, hmode]
  refine ⟨?_, h.done_news hs hi hepisode, h.done_kept hs, h.done_bytes hs hi⟩
  have hup : (budgetDone s m).uptime = (staged s).uptime := htold.uptime
  rw [PostedMany, hup]
  exact htold.list

end Sys2Proof.Machine.PowerSources
end

section
/-! SUPPORT. Stage 7 of BUDGET_STEP, the test of a release that the bridge carries (R67, R91), and the statement on the whole
step. -/

namespace Sys2Proof.Machine.PowerSources

/-! ### The state that stage 7 starts from -/

section
variable (s : State)

theorem warned_bay (b : Bay) : (warned s).bay b = s.bay b := warned_kept s (.bay b) (by simp)

theorem warned_swap : (warned s).swap = s.swap := warned_kept s .swap (by simp)

theorem warned_swapWindow : (warned s).swapWindow = s.swapWindow := warned_kept s .swapWindow (by simp)

theorem warned_link : (warned s).link = s.link := warned_kept s .link (by simp)

theorem warned_entries : (warned s).holds.entries = s.holds.entries := warned_kept s .holds (by simp)

theorem warned_acceptanceOf (k : Nat) : (warned s).acceptanceOf k = s.acceptanceOf k :=
  acceptanceOf_of_kept (warned_kept s) (by simp) k

theorem warned_serial (b : Bay) : (warned s).serial b = s.serial b := by rw [State.serial, State.serial, warned_bay]

theorem warned_latchedFor (w : SwapContext) : (warned s).latchedFor w ↔ s.latchedFor w := by
  rw [State.latchedFor, State.latchedFor, warned_bay]

end

theorem indexed_warned {s : State} (hi : Indexed s.notices.list) : Indexed (warned s).notices.list :=
  (told_warned hi).indexed (indexed_staged hi)

/-! ### The three courses of stage 7 -/

/-- The sections of bays show something new only for the bay of the release. -/
theorem changed_bay {s m : State} {w : SwapContext} (hw : s.swap = some w) (hb : ∀ b, b ≠ w.bay → m.bay b = s.bay b)
    (hm : ∀ v, m.swap = some v → v.bay = w.bay) (b : Bay) (hc : m.bay b ≠ s.bay b ∨ m.swapOf b ≠ s.swapOf b) :
    b = w.bay := by
  by_contra hne
  have hbefore : s.swapOf b = none := by
    simp only [State.swapOf, hw]
    exact if_neg (Ne.symm hne)
  have hafter : m.swapOf b = none := by
    unfold State.swapOf
    split
    · exact if_neg fun h => hne (h.symm.trans (hm _ ‹_›))
    · rfl
  rcases hc with hc | hc
  · exact hc (hb b hne)
  · exact hc (hafter.trans hbefore.symm)

theorem bay_mem_releaseParts (b : Bay) : Part.bay b ∈ releaseParts := by cases b <;> decide

theorem tested_stays (s : State) : Tested s (warned s) [] 0 [] [] where
  told := Told.refl _
  release := by simp
  kept := (Kept.refl _).mono (by simp)
  bytes := (BytesKept.refl _).mono (by simp)
  storage := inForce_congr (warned_entries s) .storage
  bays := fun b hb => absurd hb (shown_bays_same (warned_kept s) (by simp) (by simp) b)
  entries := fun he => absurd (warned_entries s) he

theorem WentOn.swap_bay {s t : State} {w : SwapContext} (h : WentOn s t w) (v : SwapContext) (hv : t.swap = some v) :
    v.bay = w.bay := by
  obtain ⟨hfound, hnone⟩ := h.checked
  have of_eq {v' : SwapContext} (h' : t.swap = some v') (hbay : v'.bay = w.bay) : v.bay = w.bay := by
    rw [hv] at h'
    cases h'
    exact hbay
  cases hc : firstCarrier t w.bay with
  | some c => exact of_eq (hfound c hc).1 rfl
  | none =>
    obtain ⟨hrelatching, hrelatches⟩ := hnone hc
    by_cases hphase : w.phase = .relatching
    · exact of_eq (hrelatching hphase).1 rfl
    · exact of_eq (hrelatches hphase).1 rfl

theorem tested_wentOn {s m : State} {w : SwapContext} (hw : s.swap = some w) (h : WentOn (warned s) m w) :
    Tested s m [] newsBay [.swap, .bay w.bay] [bayArea w.bay] where
  told := h.told
  release := by
    have := bay_mem_releaseParts w.bay
    simpa [releaseParts] using this
  kept := h.kept.mono (by simp)
  bytes := (BytesKept.of_memory h.memory).mono (by simp)
  storage := inForce_congr (Eq.trans (h.kept .holds (by simp)) (warned_entries s)) .storage
  bays := by
    intro b hb
    have hsame : ∀ d, d ≠ w.bay → m.bay d = s.bay d := fun d hd =>
      Eq.trans (h.kept (.bay d) (by simp [hd])) (warned_bay s d)
    rw [changed_bay hw hsame h.swap_bay b hb]
    simp
  entries := fun he => absurd (Eq.trans (h.kept .holds (by simp)) (warned_entries s)) he

theorem storage_withoutSwap {g h : HoldSet} {w : SwapContext} (hg : g.entries = withoutSwap w h.entries) :
    g.inForce .storage = h.inForce .storage := by
  rw [inForce_eq_any, inForce_eq_any, hg, withoutSwap, Bool.eq_iff_iff]
  simp only [List.any_eq_true, List.mem_filter, decide_eq_true_eq, Bool.not_eq_true', decide_eq_false_iff_not]
  constructor
  · rintro ⟨e, ⟨he, -⟩, hk⟩
    exact ⟨e, he, hk⟩
  · rintro ⟨e, he, hk⟩
    exact ⟨e, ⟨he, fun hn => by simp [hk] at hn⟩, hk⟩

theorem tested_endedNow {s m : State} {w : SwapContext} (hw : s.swap = some w) (h : EndedNow (warned s) m w) :
    Tested s m (abortPosts (warned s) (lostContext (warned s) w) .carrierLost) (newsBay ||| (warned s).endBits w)
      [.swap, .bay w.bay, .holds, .link] ([bayArea w.bay, holdArea] ++ endAreas w) where
  told := h.told
  release := by
    have := bay_mem_releaseParts w.bay
    simpa [releaseParts] using this
  kept := h.kept.mono (by simp)
  bytes := h.bytes.mono fun r hr => by simp [hr]
  storage := by
    have hentries := h.entries
    rw [warned_entries] at hentries
    exact storage_withoutSwap hentries
  bays := by
    intro b hb
    have hsame : ∀ d, d ≠ w.bay → m.bay d = s.bay d := fun d hd =>
      Eq.trans (h.kept (.bay d) (by simp [hd])) (warned_bay s d)
    have hnone : ∀ v, m.swap = some v → v.bay = w.bay := fun v hv => by rw [h.swap] at hv; cases hv
    rw [changed_bay hw hsame hnone b hb]
    simp
  entries := fun _ => by simp

/-! ### Stage 7 by the state that it finds -/

/-- The bridge cell qualifies at a state (R65, R67). -/
def BridgeCarries (u : State) : Prop :=
  loadNeed u ≤ 12000 ∧ loadNeed u * (u.swapWindow + 15) ≤ u.power.bridgeEnergy

theorem bridgeTest_carries {u : State} (h : BridgeCarries u) : u.bridgeTest = u := if_pos ((bridgeCarries_iff u).2 h)

theorem bridgeTest_fails {u : State} {w : SwapContext} (h : ¬ BridgeCarries u) (hw : u.swap = some w)
    (hc : w.carrier = .bridge) : u.bridgeTest = u.carrierLoss := by
  have hloss : u.lossOf .bridge = u.carrierLoss := by
    unfold State.lossOf
    rw [hw]
    exact if_pos hc
  unfold State.bridgeTest
  rw [if_neg (fun hb => h ((bridgeCarries_iff u).1 hb)), hloss]

/-- A release that the bridge does not carry, or whose path is reclosed, is not tested (R67, R91). -/
theorem bridgeTest_untested {u : State} (h : ∀ w, u.swap = some w → w.carrier ≠ .bridge ∨ w.pathReclosed = true) :
    u.bridgeTest = u := by
  have hloss : u.lossOf .bridge = u := by
    unfold State.lossOf
    split
    · rename_i w hw
      rcases h w hw with hc | hp
      · exact if_neg hc
      · rw [State.carrierLoss, hw]
        simp [hp]
    · rfl
  unfold State.bridgeTest
  rw [hloss, ite_self]

theorem firstCarrier_ne_bridge {u : State} (x : Bay) (h : ¬ BridgeCarries u) : firstCarrier u x ≠ some .bridge := by
  unfold firstCarrier
  split
  · simp
  split
  · simp
  split
  · exact absurd ‹_› h
  · simp

/-! ### What the step leaves of the check -/

theorem inner_line (p : PowerUnit) (line : Bool) : PowerUnit.inner { p with hibernate := line } = p.inner := rfl

/-- The check reads the same when the step is done as when stage 7 began. -/
theorem Tested.sameCheck {s m : State} {posts : List Post} {bits : Byte} {parts : List Part} {areas : List Area}
    (h : Tested s m posts bits parts areas) {x : Bay} (hx : Part.bay (otherBay x) ∉ parts) :
    SameCheck (warned s) (budgetDone s m) x := by
  have hwindow := not_mem_of_release h.release (p := .swapWindow) (by decide)
  refine ⟨?_, h.sourced_kept_warned (.bay (otherBay x)) (by simp [hx]), h.sourced_kept_warned .swapWindow (by simp [hwindow])⟩
  rw [h.done_line, warned_power, inner_line]

/-- The condition of stage 7, read when the step is done. -/
theorem bridgeCarries_done {s t : State} {x : Bay} (h : SameCheck (warned s) t x) :
    (loadNeed t ≤ 12000 ∧ loadNeed t * (s.swapWindow + 15) ≤ t.power.bridgeEnergy) ↔ BridgeCarries (warned s) := by
  rw [BridgeCarries, h.need, h.energy, warned_swapWindow]

theorem lossEnds_done {s t : State} {w : SwapContext} (h : SameCheck (warned s) t w.bay) :
    LossEnds s t w ↔ firstCarrier (warned s) w.bay = none ∧ w.phase ≠ .relatching ∧ (warned s).latchedFor w := by
  rw [LossEnds, h.carrier, warned_latchedFor]

theorem carrierChecked_congr {s s' t t' : State} {w : SwapContext} (hs : s'.bay w.bay = s.bay w.bay)
    (hcheck : SameCheck t t' w.bay) (hswap : t'.swap = t.swap) (hbay : t'.bay w.bay = t.bay w.bay)
    (hclock : t'.clock = t.clock) (h : CarrierChecked s t w) : CarrierChecked s' t' w := by
  unfold CarrierChecked at *
  rw [reclosedAt_congr hcheck]
  simpa only [hcheck.carrier, hcheck.need, hcheck.best, hswap, hbay, hclock, hs] using h

/-! ### The statement -/

theorem tested_bridgeTest_untested {s : State}
    (h : ∀ w, s.swap = some w → w.carrier ≠ .bridge ∨ w.pathReclosed = true) :
    Tested s (warned s).bridgeTest [] 0 [] [] := by
  rw [bridgeTest_untested (by rw [warned_swap]; exact h)]
  exact tested_stays s

/-- What the statement says of a step that leaves a release to its carrier, finds it another, or relatches it. -/
theorem checked_of_wentOn {s m : State} {w : SwapContext} (h : WentOn (warned s) m w)
    (ht : Tested s m [] newsBay [.swap, .bay w.bay] [bayArea w.bay]) : CarrierChecked s (budgetDone s m) w := by
  have hdone : SameCheck m (budgetDone s m) w.bay := by
    refine ⟨?_, sourced_kept s m (.bay _) (by simp), sourced_kept s m .swapWindow (by simp)⟩
    rw [ht.done_line, ht.power, inner_line]
  exact carrierChecked_congr (warned_bay s w.bay).symm hdone (sourced_kept s m .swap (by simp))
    (sourced_kept s m (.bay w.bay) (by simp)) (sourced_kept s m .clock (by simp)) h.checked

theorem abortPosts_warned (s : State) (v : SwapContext) (r : AbortReason) :
    abortPosts (warned s) v r = abortPosts s v r := by
  rw [abortPosts, abortPosts, warned_serial]

theorem askerApart_notices {w : SwapContext} (hok : ∀ k n : Nat, w.requester = .slot k n → k < 24) :
    AskerApart [noticesArea] w := fun k n h => slotApart_notices (hok k n h)

/-- What the step leaves of a release that ends at once, beside its notices and news (R83 to R85). -/
theorem ended_of_endedNow {s m : State} {w : SwapContext} (hi : Indexed s.notices.list) (hl : s.link.Agrees)
    (hok : ∀ k n : Nat, w.requester = .slot k n → k < 24) (h : EndedNow (warned s) m w) :
    EndedAtOnce s (budgetDone s m) w (lostContext (warned s) w) .carrierLost ∧
      (budgetDone s m).holds.entries = withoutSwap w s.holds.entries ∧ PollJoined s (budgetDone s m) w.bay := by
  have hm : Indexed m.notices.list := h.told.indexed (indexed_warned hi)
  have hbay : (sourced s m).bay w.bay = m.bay w.bay := sourced_kept s m (.bay w.bay) (by simp)
  have hclock : (sourced s m).clock = m.clock := sourced_kept s m .clock (by simp)
  have hentries : (sourced s m).holds.entries = m.holds.entries := sourced_kept s m .holds (by simp)
  have hlink : (sourced s m).link = m.link := sourced_kept s m .link (by simp)
  have hapart : AskerApart [noticesArea] (lostContext (warned s) w) := askerApart_notices hok
  have hlive : AskerApart [liveArea] (lostContext (warned s) w) := fun k _ _ => slotApart_live k
  have hsourced : EndAnswered s (sourced s m) (lostContext (warned s) w) (.aborted .carrierLost) :=
    endAnswered_after (sourced_within s hm) hapart (congrArg uptimeOf hclock) hbay
      (endAnswered_before (warned_within hi) hapart (warned_acceptanceOf s) (h.answered hok))
  refine ⟨⟨Eq.trans (sourced_kept s m .swap (by simp)) h.swap, ?_, ?_⟩, ?_, ?_⟩
  · have hdone : (budgetDone s m).clock = (warned s).clock := hclock.trans h.told.clock
    show (sourced s m).bay w.bay = _
    rw [hbay, h.bay, hdone, warned_bay]
  · exact endAnswered_after (finished_live s (sourced s m) rfl) hlive rfl rfl hsourced
  · exact hentries.trans (h.entries.trans (by rw [warned_entries]))
  · have hagrees : (warned s).link.Agrees := by rw [warned_link]; exact hl
    exact pollJoined_congr (warned_link s).symm hlink hclock hbay (h.polled hagrees)

/-- A step whose stage 7 posts nothing tells of its warnings and its change of mode alone. -/
theorem Tested.stepped_quiet {s m : State} {bits : Byte} {parts : List Part} {areas : List Area}
    (h : Tested s m [] bits parts areas) (hs : s.LinesHold) (hi : Indexed s.notices.list) (hepisode : s.EpisodeAgrees) :
    Stepped s (budgetDone s m) (bridgePosts s (budgetDone s m) ++ sourcePosts s (budgetDone s m)) bits parts areas := by
  have := h.stepped hs hi hepisode
  rwa [List.append_nil] at this

/-- What the statement says of a step that tests a release, by what the step leaves of its carrier (R67, R91). -/
def TestedFor (s t : State) (w : SwapContext) : Prop :=
  let carries := loadNeed t ≤ 12000 ∧ loadNeed t * (s.swapWindow + 15) ≤ t.power.bridgeEnergy
  let v := lostContext t w
  (carries → Stepped s t (bridgePosts s t ++ sourcePosts s t) 0 [] []) ∧
  (¬ carries → ¬ LossEnds s t w → CarrierChecked s t w ∧
    Stepped s t (bridgePosts s t ++ sourcePosts s t) newsBay [.swap, .bay w.bay] [bayArea w.bay]) ∧
  (¬ carries → LossEnds s t w → s.link.Agrees → s.AsksAlone w →
    EndedAtOnce s t w v .carrierLost ∧ t.holds.entries = withoutSwap w s.holds.entries ∧ PollJoined s t w.bay ∧
    Stepped s t (bridgePosts s t ++ abortPosts s v .carrierLost ++ sourcePosts s t) (newsBay ||| s.endBits w)
      [.swap, .bay w.bay, .holds, .link] ([bayArea w.bay, holdArea] ++ endAreas w))

section
variable {s : State} {w : SwapContext} (hs : s.LinesHold) (hi : Indexed s.notices.list) (hepisode : s.EpisodeAgrees)
include hs hi hepisode

theorem testedFor_carries (hc : BridgeCarries (warned s)) : TestedFor s (budgetDone s (warned s)) w := by
  have ht := tested_stays s
  have hcarries := (bridgeCarries_done (ht.sameCheck (x := w.bay) (by simp))).2 hc
  exact ⟨fun _ => ht.stepped_quiet hs hi hepisode, fun hn => absurd hcarries hn, fun hn => absurd hcarries hn⟩

theorem testedFor_wentOn {m : State} (hw : s.swap = some w) (hc : ¬ BridgeCarries (warned s))
    (hgoes : ¬ (firstCarrier (warned s) w.bay = none ∧ w.phase ≠ .relatching ∧ (warned s).latchedFor w))
    (h : WentOn (warned s) m w) : TestedFor s (budgetDone s m) w := by
  have ht := tested_wentOn hw h
  have hcheck := ht.sameCheck (x := w.bay) (by simp)
  exact ⟨fun hcarries => absurd ((bridgeCarries_done hcheck).1 hcarries) hc,
    fun _ _ => ⟨checked_of_wentOn h ht, ht.stepped_quiet hs hi hepisode⟩,
    fun _ hends => absurd ((lossEnds_done hcheck).1 hends) hgoes⟩

theorem testedFor_endedNow {m : State} (hw : s.swap = some w) (hc : ¬ BridgeCarries (warned s))
    (hends : firstCarrier (warned s) w.bay = none ∧ w.phase ≠ .relatching ∧ (warned s).latchedFor w)
    (h : EndedNow (warned s) m w) : TestedFor s (budgetDone s m) w := by
  have ht := tested_endedNow hw h
  have hcheck := ht.sameCheck (x := w.bay) (by simp)
  refine ⟨fun hcarries => absurd ((bridgeCarries_done hcheck).1 hcarries) hc,
    fun _ hn => absurd ((lossEnds_done hcheck).2 hends) hn, fun _ _ hl hasks => ?_⟩
  have hok : ∀ k n : Nat, w.requester = .slot k n → k < 24 := fun k n hslot => (hasks k n hslot).1
  have hstepped := ht.stepped hs hi hepisode
  rw [abortPosts_warned, endBits_congr (warned_within hi) (askerApart_notices hok) (warned_acceptanceOf s)] at hstepped
  obtain ⟨hended, hentries, hpolled⟩ := ended_of_endedNow hi hl hok h
  rw [lostContext_congr hcheck]
  exact ⟨hended, hentries, hpolled, hstepped⟩

/-- The step accounts for its figures, and for a release that the bridge carries, in each course of stage 7 (R67). -/
theorem budgetStep_tests (hw : s.swap = some w) (hbridge : w.carrier = .bridge) (hpath : w.pathReclosed = false)
    (hstate : (s.bay w.bay).state = .releasing) :
    ∃ t, exec .budgetStep s = .next t ∧ Accounted s t ∧ TestedFor s t w := by
  have hw' : (warned s).swap = some w := by rw [warned_swap, hw]
  refine ⟨_, exec_budgetStep s, ?_⟩
  by_cases hc : BridgeCarries (warned s)
  · rw [bridgeTest_carries hc]
    exact ⟨(tested_stays s).accounted, testedFor_carries hs hi hepisode hc⟩
  rw [bridgeTest_fails hc hw' hbridge]
  by_cases hends : firstCarrier (warned s) w.bay = none ∧ w.phase ≠ .relatching ∧ (warned s).latchedFor w
  · obtain ⟨hnone, hphase, hlatch⟩ := id hends
    have hended := endedNow_carrierLoss (indexed_warned hi) hw' hpath (by rw [warned_bay, hstate]) hnone hphase hlatch
    exact ⟨(tested_endedNow hw hended).accounted, testedFor_endedNow hs hi hepisode hw hc hends hended⟩
  · have hlost : firstCarrier (warned s) w.bay ≠ some w.carrier := by
      rw [hbridge]
      exact firstCarrier_ne_bridge w.bay hc
    have hwent := wentOn_carrierLoss (indexed_warned hi) hw' hpath hlost hends
    exact ⟨(tested_wentOn hw hwent).accounted, testedFor_wentOn hs hi hepisode hw hc hends hwent⟩

end

/-- Settles O53, by the course that stage 7 takes: no test, a bridge that still carries, a release that goes on, or one
that ends at once. -/
theorem budgetStepAccounts : Obligations.BudgetStepAccounts := by
  intro s hs hordered hepisode stepped figures
  obtain ⟨htop, hbottom, -⟩ := hordered
  have hi : Indexed s.notices.list := ⟨hbottom, htop⟩
  refine ⟨fun hfree => ?_, fun w hw hbridge hpath hstate => ?_⟩
  · have ht := tested_bridgeTest_untested hfree
    exact ⟨_, exec_budgetStep s, ht.accounted, ht.stepped_quiet hs hi hepisode⟩
  · exact budgetStep_tests hs hi hepisode hw hbridge hpath hstate

end Sys2Proof.Machine.PowerSources
end

section
/-! SUPPORT. The end of a command that changes one bay, and one that posts a notice for it besides (R4, R71, R190). -/

namespace Sys2Proof.Machine.ReleasingPack

open Sys2Proof.Machine.PowerSources

/-! ### News of a bay -/

/-- A change that keeps the state of a bay sets the news bit BAY where it moves the latch (R4, R71). -/
theorem putBay_news_latch {s : State} {b : Bay} {c : BayContext} (h : c.state = (s.bay b).state) :
    (s.putBay b c).notices.news = s.notices.news ||| (if c.latch = (s.bay b).latch then 0 else newsBay) := by
  rw [State.putBay_notices_news]
  by_cases hl : c.latch = (s.bay b).latch
  · simp [bayNews, h, hl]
  · simp [bayNews, h, hl, Ne.symm hl]

theorem putBay_kept_state {s : State} {b : Bay} {c : BayContext} (h : c.state = (s.bay b).state) :
    Kept [.bay b, .news] s (s.putBay b c) :=
  putBay_kept_power s b c (fun ho => by rw [h, ho])

/-- A change that keeps both the state and the latch of a bay changes that bay alone. -/
theorem putBay_kept_quiet {s : State} {b : Bay} {c : BayContext} (h : c.state = (s.bay b).state)
    (hl : c.latch = (s.bay b).latch) : Kept [.bay b] s (s.putBay b c) := by
  intro p hp
  by_cases hnews : p = .news
  · subst hnews
    show (s.putBay b c).notices.news = s.notices.news
    simp [bayNews, h, hl]
  · exact putBay_kept_state h p (by simpa [hnews] using hp)

/-! ### The end of a command on a bay -/

/-- The bytes that a command on one bay leaves alone. -/
theorem bay_bytesKept_finished {A : List Area} {s a : State} {b : Bay} (hs : s.LinesHold)
    (hkept : Kept [.clock, .pins, .bay b, .noticeList, .news] s a) (hbytes : BytesKept A s a) :
    BytesKept (bayArea b :: A) s (State.refresh s {} a.driveLines) := by
  refine BytesKept.finished {} hs hkept hbytes (by simp) ⟨rfl, rfl⟩ _ (by simp) (by simp) ?_ ?_ (by simp) (by simp)
    (by simp) <;> cases b <;> simp

/-! ### A notice after a bay's change -/

section
variable {s a t : State} (hl : a.notices.list = s.notices.list)
include hl

theorem listed_of_list : a.notices.listed = s.notices.listed := by
  rw [← listedIn_list, ← listedIn_list, hl]

/-- The room that a posting finds is that of the notice list. -/
theorem postNews_of_list : a.postNews = s.postNews := by
  rw [State.postNews, State.postNews, listed_of_list hl]

theorem posted_of_list {kind : NoticeKind} {bay : Option Bay} {flags : Nat} {payload : List Byte}
    (h : Posted a t kind bay flags payload) : Posted s t kind bay flags payload := by
  have hlisted := listed_of_list hl
  simp only [NoticeUnit.list, Prod.mk.injEq] at hl
  obtain ⟨hbottom, htop, hentries, hcounter, hdeferred⟩ := hl
  unfold Posted at h ⊢
  rwa [hlisted, hbottom, htop, hentries, hcounter, hdeferred] at h

end

/-- Work that changes a bay and then posts one notice: the notice, the news and the frame at the command's end (R190,
R191). -/
theorem posts_finished {s a : State} {b : Bay} (hs : s.LinesHold) (hkept : Kept [.clock, .bay b, .news] s a)
    (hmem : a.port.memory = s.port.memory) (kind : NoticeKind) (bay : Option Bay) (flags : Nat) (payload : List Byte) :
    let t := State.refresh s {} (a.post kind bay flags payload).driveLines
    t.clock = a.clock ∧ t.bay b = a.bay b ∧ Posted s t kind bay flags payload ∧
      t.notices.news = a.notices.news ||| s.postNews ∧ Kept [.clock, .bay b, .noticeList, .news, .attention] s t ∧
      BytesKept [bayArea b, noticeArea s] s t := by
  intro t
  have hlist : a.notices.list = s.notices.list := hkept .noticeList (by simp)
  have hplace : noticeArea a = noticeArea s := by
    have : a.notices.bottom = s.notices.bottom := congrArg Prod.fst hlist
    rw [noticeArea, noticeArea, this]
  have hpost := post_kept a kind bay flags payload
  have hall := hkept.append hpost
  have hbytes : BytesKept ([] ++ [noticeArea a]) s (a.post kind bay flags payload) :=
    (BytesKept.of_memory hmem).append (post_bytesKept a kind bay flags payload)
  rw [hplace] at hbytes
  refine ⟨hpost .clock (by simp), post_bay a kind bay flags payload b,
    posted_of_list hlist (post_posted a kind bay flags payload), ?_, ?_, ?_⟩
  · rw [← postNews_of_list hlist, ← post_news a kind bay flags payload]
    exact finished_news {} hs hall (by simp) (by simp)
  · exact Kept.finished {} hs hall (by simp) (by simp) _ (by simp) (by simp) (by simp)
  · exact bay_bytesKept_finished hs (hall.mono (by simp)) hbytes

end Sys2Proof.Machine.ReleasingPack
end

section
/-! SUPPORT. The latch of a bay that is not RELEASING: its sensor and its three timers (R72 to R75). -/

namespace Sys2Proof.Machine.ReleasingPack

open Sys2Proof.Machine.PowerSources

/-! ### What the latch hands on -/

section
variable {s : State} {b : Bay} (h : (s.bay b).state ≠ .releasing)
include h

/-- A bay that is not RELEASING has no release for its latch to hand anything to (R80 to R82, R84). -/
theorem releaseOf_not_releasing : s.releaseOf b = none := if_neg h

theorem handOpen_not_releasing : s.handOpen b = s := by
  rw [State.handOpen, releaseOf_not_releasing h]

theorem handOpenFailed_not_releasing : s.handOpenFailed b = s := by
  rw [State.handOpenFailed, releaseOf_not_releasing h]

theorem handClosed_not_releasing : s.handClosed b = s := by
  rw [State.handClosed, releaseOf_not_releasing h]

theorem handStuck_not_releasing : s.handStuck b = s := by
  rw [State.handStuck, releaseOf_not_releasing h]

end

/-! ### The latch sensor -/

/-- The bay context after a reading of its latch sensor (R72 to R75). -/
def sensed (c : BayContext) (reading : LatchReading) (now : Instant) : BayContext :=
  if reading = .closed then
    (if c.latch = .closed ∨ c.latch = .opening then c else { c with latch := .closed, latchTimer := none })
  else if c.latch = .closed then { c with latch := .closing, latchTimer := some (now + ms 400) }
  else if reading = .opened ∧ c.latch = .opening then { c with latch := .opened, latchTimer := none }
  else c

theorem sensed_state (c : BayContext) (reading : LatchReading) (now : Instant) :
    (sensed c reading now).state = c.state := by
  unfold sensed
  split_ifs <;> rfl

/-- On a bay that is not RELEASING a reading changes the bay context and nothing else hangs on it. -/
theorem latchReads_not_releasing {s : State} {b : Bay} (h : (s.bay b).state ≠ .releasing) (reading : LatchReading) :
    s.latchReads b reading = s.putBay b (sensed (s.bay b) reading s.clock) := by
  have hclosed : s.latchCloses b = s.putBay b (s.bay b).latched :=
    handClosed_not_releasing (by rw [State.bay_putBay]; exact h)
  have hopened : s.latchOpens b = s.putBay b { s.bay b with latch := .opened, latchTimer := none } :=
    handOpen_not_releasing (by rw [State.bay_putBay]; exact h)
  unfold State.latchReads sensed
  rw [hclosed, hopened]
  cases hlatch : (s.bay b).latch <;> cases reading <;>
    simp [putBay_self, BayContext.closing, BayContext.latched]

theorem exec_latchSensorChange {s : State} {b : Bay} (hs : s.LinesHold) (h : (s.bay b).state ≠ .releasing)
    (reading : LatchReading) :
    ∃ t, exec (.latchSensorChange b reading) s = .next t ∧ t.bayPins b = { s.bayPins b with latch := reading } ∧
      t.bayPins (otherBay b) = s.bayPins (otherBay b) ∧ t.bay b = sensed (s.bay b) reading s.clock ∧
      t.notices.news = s.notices.news ||| (if (t.bay b).latch = (s.bay b).latch then 0 else newsBay) ∧
      Kept [.pins, .bay b, .news, .attention] s t ∧ BytesKept [bayArea b] s t := by
  have hexec : exec (.latchSensorChange b reading) s =
      finish s ((s.setLatchPin b reading).putBay b (sensed (s.bay b) reading s.clock)) :=
    congrArg (finish s) (latchReads_not_releasing (s := s.setLatchPin b reading) h reading)
  have hstate := sensed_state (s.bay b) reading s.clock
  have hkept : Kept [.pins, .bay b, .news] s ((s.setLatchPin b reading).putBay b (sensed (s.bay b) reading s.clock)) :=
    (setBayPins_kept s b _).append (putBay_kept_state hstate)
  have hbay : ((s.setLatchPin b reading).putBay b (sensed (s.bay b) reading s.clock)).bay b =
      sensed (s.bay b) reading s.clock := State.bay_putBay _ b _
  refine ⟨_, hexec, ?_, ?_, hbay, ?_, ?_, ?_⟩
  · exact State.bayPins_setBayPins s b _
  · cases b <;> rfl
  · rw [finished_news {} hs hkept (by simp) (by simp), finished_bay, hbay]
    exact putBay_news_latch (s := s.setLatchPin b reading) hstate
  · exact Kept.finished {} hs hkept (by simp) (by simp) _ (by simp) (by simp) (by simp)
  · exact bay_bytesKept_finished hs (hkept.mono (by simp)) (BytesKept.of_memory rfl)

/-! ### The latch timers -/

section
variable {s : State} {b : Bay} {till : Instant} (hs : s.LinesHold) (h : (s.bay b).state ≠ .releasing)
  (htimer : (s.bay b).latchTimer = some till)

include hs in
/-- A drive that is not confirmed moves the latch and posts LATCH_FAULT with the state that it leaves (R72, R74). -/
theorem latchFault_finished {c : BayContext} (hstate : c.state = (s.bay b).state) (hlatch : c.latch ≠ (s.bay b).latch)
    (hdescriptor : c.descriptor = (s.bay b).descriptor) (d : LatchDirection) :
    let t := State.refresh s {} (((s.reach till).putBay b c).postLatchFault b d).driveLines
    t.clock = max s.clock till ∧ t.bay b = c ∧
      Posted s t .latchFault (some b) 0
        (leBytes 8 (s.serial b).toNat ++ [byte (directionCode d), byte (latchCode c.latch)]) ∧
      t.notices.news = s.notices.news ||| newsBay ||| s.postNews ∧
      Kept [.clock, .bay b, .noticeList, .news, .attention] s t ∧ BytesKept [bayArea b, noticeArea s] s t := by
  have hbay : ((s.reach till).putBay b c).bay b = c := State.bay_putBay _ b c
  have hserial : ((s.reach till).putBay b c).serial b = s.serial b := by
    rw [State.serial, State.serial, hbay, hdescriptor]
  have hnews : ((s.reach till).putBay b c).notices.news = s.notices.news ||| newsBay := by
    rw [putBay_news_latch (s := s.reach till) hstate, State.reach_bay, if_neg hlatch, State.reach_notices]
  have hkept : Kept [.clock, .bay b, .news] s ((s.reach till).putBay b c) :=
    (reach_kept s till).append (putBay_kept_state (s := s.reach till) hstate)
  have hpost := posts_finished hs hkept rfl .latchFault (some b) 0
    (bayPayload (s.serial b) [byte (directionCode d), byte (latchCode c.latch)])
  rw [hbay, hnews] at hpost
  rw [State.postLatchFault, hserial, hbay]
  exact hpost

include htimer

include h in
theorem exec_openConfirmExpiry (hlatch : (s.bay b).latch = .opening) : exec (.openConfirmExpiry b) s =
    finish s (((s.reach till).putBay b ((s.bay b).closing (max s.clock till))).postLatchFault b .toOpen) := by
  simp only [exec, execOpenConfirmExpiry, hlatch, htimer]
  refine congrArg (finish s) (handOpenFailed_not_releasing ?_)
  rw [State.postLatchFault, post_bay, State.bay_putBay]
  exact h

include h in
theorem exec_closeConfirmExpiry (hlatch : (s.bay b).latch = .closing) : exec (.closeConfirmExpiry b) s =
    finish s (((s.reach till).putBay b ((s.bay b).stuckAt (max s.clock till))).postLatchFault b .toClose) := by
  simp only [exec, execCloseConfirmExpiry, hlatch, htimer]
  refine congrArg (finish s) (handStuck_not_releasing ?_)
  rw [State.postLatchFault, post_bay, State.bay_putBay]
  exact h

include hs in
theorem exec_retryTimerExpiry (hlatch : (s.bay b).latch = .stuck) :
    ∃ t, exec (.retryTimerExpiry b) s = .next t ∧ t.clock = max s.clock till ∧
      t.bay b = { s.bay b with latchTimer := some (t.clock + ms 2000) } ∧
      Kept [.clock, .bay b] s t ∧ BytesKept [bayArea b] s t := by
  have hexec : exec (.retryTimerExpiry b) s =
      finish s ((s.reach till).putBay b ((s.bay b).stuckAt (max s.clock till))) := by
    simp only [exec, execRetryTimerExpiry, hlatch, htimer]
    rfl
  have hkept : Kept [.clock, .bay b] s ((s.reach till).putBay b ((s.bay b).stuckAt (max s.clock till))) :=
    (reach_kept s till).append (putBay_kept_quiet rfl hlatch.symm)
  refine ⟨_, hexec, rfl, ?_, ?_, ?_⟩
  · rw [finished_bay, State.bay_putBay, BayContext.stuckAt, ← hlatch]
    rfl
  · exact Kept.finished {} hs hkept (by simp) (by simp) _ (by simp) (by simp) (by simp)
  · exact bay_bytesKept_finished hs (hkept.mono (by simp)) (BytesKept.of_memory rfl)

end

/-- Settles O50: the sensor by the latch state that it finds, and each of the three timers in its own latch state. -/
theorem latchTravels : Obligations.LatchTravels := by
  intro b s hs h
  refine ⟨fun reading => exec_latchSensorChange hs h reading, fun till htimer => ⟨fun hlatch => ?_, fun hlatch => ?_,
    fun hlatch => exec_retryTimerExpiry hs htimer hlatch⟩⟩
  · obtain ⟨hclock, hbay, hfault⟩ := latchFault_finished hs (till := till)
      (c := (s.bay b).closing (max s.clock till)) rfl (by simp [BayContext.closing, hlatch]) rfl .toOpen
    refine ⟨_, exec_openConfirmExpiry h htimer hlatch, hclock, ?_, hfault⟩
    rw [hclock]
    exact hbay
  · obtain ⟨hclock, hbay, hfault⟩ := latchFault_finished hs (till := till)
      (c := (s.bay b).stuckAt (max s.clock till)) rfl (by simp [BayContext.stuckAt, hlatch]) rfl .toClose
    refine ⟨_, exec_closeConfirmExpiry h htimer hlatch, hclock, ?_, hfault⟩
    rw [hclock]
    exact hbay

end Sys2Proof.Machine.ReleasingPack
end

section
/-! SUPPORT. The buttons: the press timer, and the release request of a press (R76, R77, R79). -/

namespace Sys2Proof.Machine.ReleasingPack

open Sys2Proof.Machine.PowerSources

/-! ### BUTTON_CHANGE -/

/-- The press timer starts at a press that finds neither the timer nor the release-wait mark; a break clears both
(R77). -/
theorem button_eq (c : BayContext) (pressed : Bool) (now : Instant) : c.button pressed now =
    if pressed = false then { c with pressTimer := none, releaseWait := false }
    else if c.releaseWait = true ∨ c.pressTimer.isSome = true then c
    else { c with pressTimer := some (now + ms 50) } := by
  unfold BayContext.button
  cases pressed with
  | false => rfl
  | true =>
    obtain ⟨state, latch, latchTimer, pathClosed, descriptor, gauge, stale, failedPolls, barred, chargeEnable,
      chargeLimit, seatingTimer, pollDue, jolt, pressTimer, releaseWait⟩ := c
    cases releaseWait <;> cases pressTimer <;> simp

theorem exec_buttonChange {s : State} (hs : s.LinesHold) (b : Bay) (pressed : Bool) :
    ∃ t, exec (.buttonChange b pressed) s = .next t ∧ t.bayPins b = { s.bayPins b with button := pressed } ∧
      t.bayPins (otherBay b) = s.bayPins (otherBay b) ∧ t.bay b = (s.bay b).button pressed s.clock ∧
      Kept [.pins, .bay b] s t ∧ BytesKept [bayArea b] s t := by
  have hkept : Kept [.pins, .bay b] s ((s.setButton b pressed).setBay b ((s.bay b).button pressed s.clock)) :=
    (setBayPins_kept s b _).append (setBay_kept _ b _)
  refine ⟨_, rfl, State.bayPins_setBayPins s b _, ?_, State.bay_setBay _ b _, ?_, ?_⟩
  · cases b <;> rfl
  · exact kept_finished {} hs hkept (by simp) rfl (.inr rfl) (fun _ => rfl) (fun _ => rfl)
  · exact bay_bytesKept_finished hs (hkept.mono (by simp)) (BytesKept.of_memory rfl)

/-! ### A press that is taken -/

/-- The state once a press is taken, at its timer's deadline (R77). -/
def pressTaken (s : State) (b : Bay) (till : Instant) : State := (s.reach till).takePress b

section
variable (s : State) (b : Bay) (till : Instant)

theorem pressTaken_bay : (pressTaken s b till).bay b = { s.bay b with pressTimer := none, releaseWait := true } :=
  State.bay_setBay _ b _

theorem pressTaken_otherBay : (pressTaken s b till).bay (otherBay b) = s.bay (otherBay b) :=
  State.bay_setBay_other _ b _

theorem pressTaken_kept : Kept [.clock, .bay b] s (pressTaken s b till) :=
  (reach_kept s till).append (setBay_kept _ b _)

theorem pressTaken_sameCheck : SameCheck s (pressTaken s b till) b := ⟨rfl, pressTaken_otherBay s b till, rfl⟩

/-- Taking a press changes nothing that the checks of its request read (R76). -/
theorem pressTaken_refusal : refusalOf (pressTaken s b till) b = refusalOf s b := by
  have hcheck := pressTaken_sameCheck s b till
  simp only [refusalOf, pressTaken_bay, pressTaken_otherBay, hcheck.carrier, hcheck.need, hcheck.best]
  rfl

end

section
variable {s : State} {b : Bay} {till : Instant} (hs : s.LinesHold) (htimer : (s.bay b).pressTimer = some till)
include htimer

theorem exec_pressTimerExpiry : exec (.pressTimerExpiry b) s = finish s ((pressTaken s b till).buttonRequest b) := by
  simp only [exec, execPressTimerExpiry, htimer]
  rfl

include hs

/-- A request that fails a check is reported by a notice (R76, R77). -/
theorem exec_pressTimerExpiry_refused {r : Reason} {v : Nat × Nat} (hrefusal : refusalOf s b = some (r, v)) :
    ∃ t, exec (.pressTimerExpiry b) s = .next t ∧ t.clock = max s.clock till ∧
      t.bay b = { s.bay b with pressTimer := none, releaseWait := true } ∧
      Posted s t .releaseRefused (some b) 0
        (leBytes 8 (s.serial b).toNat ++ [byte (reasonCode r)] ++ leBytes 4 v.1 ++ leBytes 4 v.2) ∧
      t.notices.news = s.notices.news ||| s.postNews ∧
      Kept [.clock, .bay b, .noticeList, .news, .attention] s t ∧ BytesKept [bayArea b, noticeArea s] s t := by
  have hserial : (pressTaken s b till).serial b = s.serial b := by
    rw [State.serial, State.serial, pressTaken_bay]
  have hrequest : (pressTaken s b till).buttonRequest b = (pressTaken s b till).post .releaseRefused (some b) 0
      (leBytes 8 (s.serial b).toNat ++ [byte (reasonCode r)] ++ leBytes 4 v.1 ++ leBytes 4 v.2) := by
    rw [State.buttonRequest, releaseResult_refused (by rw [pressTaken_refusal]; exact hrefusal), hserial]
    simp only [State.postRefused, bayPayload, List.append_assoc]
    rfl
  have hpost := posts_finished (b := b) hs ((pressTaken_kept s b till).mono (by simp)) rfl .releaseRefused (some b) 0
    (leBytes 8 (s.serial b).toNat ++ [byte (reasonCode r)] ++ leBytes 4 v.1 ++ leBytes 4 v.2)
  rw [pressTaken_bay] at hpost
  exact ⟨_, (exec_pressTimerExpiry htimer).trans (congrArg (finish s) hrequest), hpost⟩

end

/-! ### A press that is granted -/

/-- The context of the release that a press is granted, with the carrier that the check found (R79). -/
def pressContext (s : State) (b : Bay) (till : Instant) (c : Carrier) : SwapContext :=
  grantContext b .button c (loadNeed s) (bestOffer s b) (max s.clock till)

/-- The state that a granted press leaves (R77, R79). -/
def pressGranted (s : State) (b : Bay) (till : Instant) (c : Carrier) : State :=
  entryAppended (grantBegun (pressTaken s b till) b (pressContext s b till c)) (.latch (otherBay b)) .swap

section
variable {s : State} {b : Bay} {till : Instant}

theorem buttonRequest_granted {c : Carrier} (hnone : refusalOf s b = none) (hc : firstCarrier s b = some c)
    (h : (s.bay (otherBay b)).latch ≠ .opening) (h' : (s.bay (otherBay b)).latch ≠ .opened)
    (hnew : s.holds.holds (.latch (otherBay b)) .swap = false) :
    (pressTaken s b till).buttonRequest b = pressGranted s b till c := by
  have hcheck := pressTaken_sameCheck s b till
  have hresult : (pressTaken s b till).releaseResult b = .granted c (loadNeed s) (bestOffer s b) := by
    rw [← hcheck.need, ← hcheck.best]
    exact releaseResult_granted (by rw [pressTaken_refusal]; exact hnone) (by rw [hcheck.carrier]; exact hc)
  rw [State.buttonRequest, hresult]
  exact grant_eq (by rwa [pressTaken_otherBay]) (by rwa [pressTaken_otherBay]) hnew

theorem pressGranted_kept (c : Carrier) :
    Kept [.clock, .bay b, .swap, .news, .power, .holds] s (pressGranted s b till c) :=
  (((pressTaken_kept s b till).append (grantBegun_kept _ b _)).append (entryAppended_kept _ _ _)).mono (by simp)

theorem pressGranted_bay (c : Carrier) : (pressGranted s b till c).bay b =
    grantedBay { s.bay b with pressTimer := none, releaseWait := true } := by
  rw [← pressTaken_bay s b till]
  exact State.bay_putBay _ b _

theorem pressTaken_online (h : (s.bay b).state = .online) : ((pressTaken s b till).bay b).state = .online := by
  rw [pressTaken_bay]
  exact h

theorem pressGranted_power (c : Carrier) (h : (s.bay b).state = .online) :
    (pressGranted s b till c).power = chargeDropped s.power b :=
  grantBegun_power (s := pressTaken s b till) _ (pressTaken_online h)

theorem pressGranted_news (c : Carrier) (h : (s.bay b).state = .online) :
    (pressGranted s b till c).notices.news = s.notices.news ||| newsBay :=
  grantBegun_news (s := pressTaken s b till) _ (pressTaken_online h)

theorem pressGranted_storage (c : Carrier) :
    (pressGranted s b till c).holds.inForce .storage = s.holds.inForce .storage := by
  rw [inForce_eq_any, inForce_eq_any]
  show (s.holds.entries ++ [_]).any _ = _
  simp

/-- A request that every check lets pass is granted to BUTTON (R77, R79). -/
theorem exec_pressTimerExpiry_granted (hs : s.LinesHold) (htimer : (s.bay b).pressTimer = some till)
    (hnone : refusalOf s b = none) (h : (s.bay (otherBay b)).latch ≠ .opening)
    (h' : (s.bay (otherBay b)).latch ≠ .opened) (hnew : s.holds.holds (.latch (otherBay b)) .swap = false) :
    ∃ t, exec (.pressTimerExpiry b) s = .next t ∧ t.clock = max s.clock till ∧ Granted s t b .button ∧
      (t.bay b).releaseWait = true ∧ (t.bay b).pressTimer = none ∧
      Kept [.clock, .swap, .bay b, .power, .holds, .news, .attention] s t ∧
      BytesKept [sourcesArea, bayArea .a, bayArea .b, holdArea] s t := by
  obtain ⟨honline, hlatch, c, hc⟩ := of_refusalOf_none hnone
  have hpower := pressGranted_power (till := till) c honline
  obtain ⟨hhib, hplatform, hepisode⟩ := chargeDropped_line s.power b
  rw [← hpower] at hhib hplatform hepisode
  have hlevel := hibernateLevel_congr hplatform hepisode
  have hguard := storageGuardLevel_congr hplatform (pressGranted_storage (till := till) c)
  have hbay := pressGranted_bay (s := s) (b := b) (till := till) c
  have hkept := pressGranted_kept (s := s) (b := b) (till := till) c
  refine ⟨_, (exec_pressTimerExpiry htimer).trans (congrArg (finish s) (buttonRequest_granted hnone hc h h' hnew)), rfl,
    ⟨?_, ?_⟩, ?_, ?_, ?_, ?_⟩
  · intro d hd
    obtain rfl : c = d := Option.some.inj (hc.symm.trans hd)
    rfl
  · simp only [finished_bay, hbay, finished_power, hlevel, finished_news_same _ hs hhib hlevel]
    refine ⟨rfl, rfl, rfl, rfl, rfl, rfl, rfl, hlatch, ?_, rfl, pressGranted_news c honline⟩
    rw [← hs.2.2, hpower]
    cases b <;> rfl
  · rw [finished_bay, hbay]
    rfl
  · rw [finished_bay, hbay]
    rfl
  · exact kept_finished {} hs hkept (by simp) hhib (.inr hlevel) (fun _ => hguard) (by simp)
  · refine bytesKept_finished {} (BytesKept.of_memory rfl) (by simp) ⟨rfl, rfl, rfl⟩ rfl (by simp) ?_ ?_ (by simp)
    · intro d _
      cases d <;> simp
    · exact fun hb => absurd hb (by simp [show (pressGranted s b till c).bright = s.bright from rfl])

end

/-- Settles O49: the button's change, and the press by what the checks of its request find. -/
theorem buttonsRequestReleases : Obligations.ButtonsRequestReleases := by
  intro b s hs _
  refine ⟨fun pressed => ?_, fun till htimer => ⟨fun r v hrefusal => ?_, fun hnone h h' hnew => ?_⟩⟩
  · rw [← button_eq]
    exact exec_buttonChange hs b pressed
  · exact exec_pressTimerExpiry_refused hs htimer hrefusal
  · exact exec_pressTimerExpiry_granted hs htimer hnone h h' hnew

end Sys2Proof.Machine.ReleasingPack
end

section
/-! SUPPORT. HOLD: the SOFTWARE entry added or renewed, without effect on a release (R89, R96, R98, R102, R104). -/

namespace Sys2Proof.Machine.ReleasingPack

open Sys2Proof.Machine.PowerSources

/-! ### The kind that a HOLD names -/

theorem softwareKind_none {code : Nat} (h : code = 2 ∨ 3 < code) : softwareKind code = none := by
  have hkind : holdKindOfCode code = some .storage ∨ holdKindOfCode code = none := by
    unfold holdKindOfCode
    split <;> simp_all
  rcases hkind with hkind | hkind <;> simp [softwareKind, hkind]

theorem softwareKind_code {kind : HoldKind} (h : kind ≠ .storage) : softwareKind (holdKindCode kind) = some kind := by
  cases kind with
  | latch b => cases b <;> rfl
  | storage => exact absurd rfl h
  | brightFreeze => rfl

/-! ### The entry -/

/-- The entries once SOFTWARE holds a kind: its entry renewed in its place, or appended (R96, R98). -/
def softwareEntries (s : State) (kind : HoldKind) (expiry : Option Instant) : List HoldEntry :=
  if s.holds.holds kind .software then
    s.holds.entries.map (fun e => if e.kind = kind ∧ e.owner = .software then { e with expiry := expiry } else e)
  else s.holds.entries ++ [{ kind := kind, owner := .software, expiry := expiry, created := s.uptime }]

/-- The state with the entries of the hold set replaced. -/
def withEntries (s : State) (entries : List HoldEntry) : State :=
  { s with holds := { s.holds with entries := entries } }

/-- The state once SOFTWARE holds a kind, with no further effect than the freeze (R98, R104). -/
def softwareHeld (s : State) (kind : HoldKind) (expiry : Option Instant) : State :=
  { withEntries s (softwareEntries s kind expiry) with
    bright := { s.bright with frozen := s.bright.frozen || decide (kind = .brightFreeze) } }

theorem softwareHeld_kept (s : State) (kind : HoldKind) (expiry : Option Instant) :
    Kept [.holds, .bright] s (softwareHeld s kind expiry) := by
  intro p hp
  cases p <;> first | rfl | simp at hp

theorem inForce_of_holds {h : HoldSet} {kind : HoldKind} {owner : HoldOwner} (hh : h.holds kind owner = true) :
    h.inForce kind = true := by
  rw [inForce_eq_any]
  simp only [HoldSet.holds, List.any_eq_true, decide_eq_true_eq] at hh ⊢
  obtain ⟨e, he, hkind, -⟩ := hh
  exact ⟨e, he, hkind⟩

/-- An entry of SOFTWARE for another kind leaves STORAGE in force as it was (R103). -/
theorem softwareHeld_storage {s : State} {kind : HoldKind} (h : kind ≠ .storage) (expiry : Option Instant) :
    (softwareHeld s kind expiry).holds.inForce .storage = s.holds.inForce .storage := by
  rw [inForce_eq_any, inForce_eq_any]
  show (softwareEntries s kind expiry).any _ = _
  unfold softwareEntries
  split
  · rw [List.any_map]
    refine congrArg (s.holds.entries.any ·) (funext fun e => ?_)
    simp only [Function.comp_apply]
    split <;> rfl
  · simp [h]

/-- A release that already relatches, or of another bay, takes no hold arrival (R89). -/
theorem holdArrival_relatching {s : State} {b : Bay} {owner : HoldOwner}
    (h : ∀ w : SwapContext, s.swap = some w → w.bay = b → w.phase = .relatching) : s.holdArrival b owner = s := by
  unfold State.holdArrival
  split
  · rename_i w hw
    exact if_neg (fun hn => hn.2 (h w hw hn.1))
  · rfl

/-- The kind's entry into force finds no latch to drive and no release to stop (R89, R102). -/
def QuietForce (s : State) (kind : HoldKind) : Prop :=
  ∀ b : Bay, kind = .latch b → s.holds.inForce kind = false →
    (s.bay b).latch ≠ .opening ∧ (s.bay b).latch ≠ .opened ∧
      ∀ w : SwapContext, s.swap = some w → w.bay = b → w.phase = .relatching

section
variable {s : State} {kind : HoldKind} (hfrozen : s.bright.frozen = s.holds.inForce .brightFreeze)
include hfrozen

/-- While BRIGHT_FREEZE is in force the brightness stands frozen already (R104). -/
theorem softwareHeld_of_inForce (hforce : s.holds.inForce kind = true) (expiry : Option Instant) :
    softwareHeld s kind expiry = withEntries s (softwareEntries s kind expiry) := by
  have hsame : (s.bright.frozen || decide (kind = .brightFreeze)) = s.bright.frozen := by
    by_cases hkind : kind = .brightFreeze
    · subst hkind
      simp [hfrozen, hforce]
    · simp [hkind]
  rw [softwareHeld, hsame]
  rfl

theorem holdAppend_software (hnew : s.holds.holds kind .software = false) (hquiet : QuietForce s kind)
    (expiry : Option Instant) : s.holdAppend kind .software expiry = softwareHeld s kind expiry := by
  have happended : softwareEntries s kind expiry =
      s.holds.entries ++ [{ kind := kind, owner := .software, expiry := expiry, created := s.uptime }] :=
    if_neg (by simp [hnew])
  unfold State.holdAppend
  rw [← happended]
  change (if s.holds.inForce kind then withEntries s (softwareEntries s kind expiry)
    else (withEntries s (softwareEntries s kind expiry)).enterForce kind .software) = _
  split
  · rename_i hforce
    exact (softwareHeld_of_inForce hfrozen hforce expiry).symm
  rename_i hforce
  cases kind with
  | latch b =>
    obtain ⟨hopening, hopened, hrelease⟩ := hquiet b rfl (by simpa using hforce)
    have hdrive := driveClose_of_not_opening (s := withEntries s (softwareEntries s (.latch b) expiry)) hopening hopened
    have harrival := holdArrival_relatching (s := withEntries s (softwareEntries s (.latch b) expiry))
      (owner := .software) hrelease
    rw [State.enterForce, hdrive, harrival]
    simp [softwareHeld, withEntries]
  | storage => simp [softwareHeld, withEntries, State.enterForce]
  | brightFreeze => simp [softwareHeld, withEntries, State.enterForce]

/-- A HOLD adds or renews the SOFTWARE entry (R98). -/
theorem holdSoftware_eq (hquiet : QuietForce s kind) (d : Nat) :
    s.holdSoftware kind d = softwareHeld s kind (s.holdExpiryAt d) := by
  unfold State.holdSoftware
  split
  · rename_i hheld
    rw [softwareHeld_of_inForce hfrozen (inForce_of_holds hheld), softwareEntries, if_pos hheld]
    rfl
  · rename_i hheld
    exact holdAppend_software hfrozen (by simpa using hheld) hquiet _

end

/-! ### The request -/

/-- The answer data of a HOLD for a stored duration, with the hold set as it leaves it (R98). -/
def holdAnswer (s : State) (h : HoldSet) (kind : HoldKind) (d : Nat) : List Byte :=
  [byte (holdKindCode kind), byte (if s.holds.holds kind .software then 0 else 1), byte (h.count kind),
    byte h.entries.length] ++ leBytes 2 d ++ [0, 0] ++
    leBytes 4 (if d = 0 then 0 else uptimeOf (s.clock + ms (1000 * d)))

theorem holdAnswer_congr {s : State} {g h : HoldSet} (he : g.entries = h.entries) (kind : HoldKind) (d : Nat) :
    holdAnswer s g kind d = holdAnswer s h kind d := by
  rw [holdAnswer, holdAnswer, HoldSet.count, HoldSet.count, he]

theorem workHold_bad {s : State} {k : Nat} (h : s.param k 0 1 = 2 ∨ 3 < s.param k 0 1) :
    workHold s k = s.answer k .refused .badParam [] := by
  rw [workHold, softwareKind_none h]
  rfl

theorem workHold_good {s : State} {k : Nat} {kind : HoldKind} (hstorage : kind ≠ .storage)
    (hp : s.param k 0 1 = holdKindCode kind) (hfrozen : s.bright.frozen = s.holds.inForce .brightFreeze)
    (hquiet : QuietForce s kind) :
    workHold s k = (softwareHeld s kind (s.holdExpiryAt (min 3600 (s.param k 2 2)))).answer k .done .none
      (holdAnswer s (softwareHeld s kind (s.holdExpiryAt (min 3600 (s.param k 2 2)))).holds kind
        (min 3600 (s.param k 2 2))) := by
  have hdeadline (d : Nat) : deadline (s.holdExpiryAt d) = if d = 0 then 0 else uptimeOf (s.clock + ms (1000 * d)) := by
    unfold State.holdExpiryAt
    split <;> rfl
  have hflag : flagBit 0 (!s.holds.holds kind .software) = if s.holds.holds kind .software then 0 else 1 := by
    cases s.holds.holds kind .software <;> rfl
  rw [workHold, hp, softwareKind_code hstorage]
  simp only [State.holdRequest, State.done, holdSoftware_eq hfrozen hquiet, State.holdData, hdeadline, hflag,
    holdDuration]
  rfl

/-- The state once the entry of a HOLD is taken, before its answer (R98). -/
def holdTaken (s : State) (k : Nat) (kind : HoldKind) : State :=
  softwareHeld s.popIntake kind (s.holdExpiryAt (min 3600 (s.param k 2 2)))

theorem holdTaken_kept (s : State) (k : Nat) (kind : HoldKind) :
    Kept [.intake, .holds, .bright] s (holdTaken s k kind) :=
  (popIntake_kept s).append (softwareHeld_kept s.popIntake kind _)

theorem exec_hold_of_takes {s : State} {k : Nat} {kind : HoldKind} (hs : s.LinesHold) (ht : s.Takes k 11)
    (hstorage : kind ≠ .storage) (hp : s.param k 0 1 = holdKindCode kind)
    (hfrozen : s.bright.frozen = s.holds.inForce .brightFreeze) (hquiet : QuietForce s kind) :
    ∃ t, exec .hold s = .next t ∧
      t.holds.entries = softwareEntries s kind (s.holdExpiryAt (min 3600 (s.param k 2 2))) ∧
      t.bright = { s.bright with frozen := s.bright.frozen || decide (kind = .brightFreeze) } ∧
      t.notices.news = s.notices.news ||| s.answerNews k ∧
      AnsweredBut [.holds, .bright] [holdArea, brightArea] s t k .done .none
        (holdAnswer s t.holds kind (min 3600 (s.param k 2 2))) := by
  have hk : k < 24 := takes_lt ht
  have hexec : exec .hold s = finish s (s.take 11 workHold) := rfl
  have hwork : workHold s.popIntake k = (holdTaken s k kind).answer k .done .none
      (holdAnswer s (holdTaken s k kind).holds kind (min 3600 (s.param k 2 2))) :=
    workHold_good (s := s.popIntake) hstorage hp hfrozen hquiet
  rw [hexec, take_of_takes ht, hwork]
  generalize hdata : holdAnswer s (holdTaken s k kind).holds kind (min 3600 (s.param k 2 2)) = data
  have hanswer := answer_kept (holdTaken s k kind) k .done .none data
  have hkept := (holdTaken_kept s k kind).append hanswer
  have hentries : ((holdTaken s k kind).answer k .done .none data).holds.entries = (holdTaken s k kind).holds.entries :=
    hanswer .holds (by simp)
  have hguard : ((holdTaken s k kind).answer k .done .none data).storageGuardLevel = s.storageGuardLevel :=
    storageGuardLevel_congr (platform_of_kept hkept (by simp))
      ((inForce_congr hentries .storage).trans (softwareHeld_storage (s := s.popIntake) hstorage _))
  refine ⟨_, rfl, hentries, hanswer .bright (by simp), ?_, ?_⟩
  · rw [finished_news {} hs hkept (by simp) (by simp), answer_news]
    rfl
  have hsame : holdAnswer s (State.refresh s {} ((holdTaken s k kind).answer k .done .none data).driveLines).holds kind
      (min 3600 (s.param k 2 2)) = data := (holdAnswer_congr hentries kind _).trans hdata
  rw [hsame]
  refine answeredBut_finished {} hk rfl rfl ?_ ?_
  · exact kept_finished {} hs hkept (by simp [answerParts]) (hkept .hibernate (by simp))
      (.inr (hibernateLevel_of_kept hkept (by simp))) (fun _ => hguard) (by simp [answerParts])
  · have hbytes : BytesKept (answerAreas k) s ((holdTaken s k kind).answer k .done .none data) :=
      answer_bytesKept (holdTaken s k kind) k .done .none data
    exact BytesKept.finished {} hs hkept hbytes (by simp) ⟨rfl, rfl⟩ _ (by simp) (by simp) (by simp) (by simp) (by simp)
      (by simp) (by simp)

/-- Settles O32: a HOLD is refused for a kind that SOFTWARE may not hold, and otherwise adds or renews its entry. -/
theorem holdPlaces : Obligations.HoldPlaces := by
  intro k s hs hshaped ht
  obtain ⟨-, -, hfrozen, -⟩ := hshaped
  refine ⟨fun hbad => ?_, fun kind hstorage hp hquiet => ?_⟩
  · exact answered_of_takes (c := .hold) hs ht rfl (workHold_bad (s := s.popIntake) hbad)
  · refine exec_hold_of_takes hs ht hstorage hp hfrozen ?_
    rintro b rfl
    exact hquiet b rfl

end Sys2Proof.Machine.ReleasingPack
end

section
/-! SUPPORT. A strike that ends a release, at a state whose NOTICE_BOTTOM is out of range (R84, R85, R146, R188). -/

namespace Sys2Proof.Machine.ReleasingPack

open Sys2Proof.Machine.PowerSources

/-- A release of bay A by its button, in SWITCHING, that DC carries (R69, R79). -/
def buttonRelease : SwapContext := grantContext .a .button .dc 1440 45000 0

/-- NOTICE_BOTTOM stands at 32, one above the last index of the list, when the monitor is about to judge a sample in
QUIET with a release in SWITCHING: the notice of the release's end goes to an entry place above the notice list. -/
def strikeOutOfRange : State :=
  { State.reset with
    notices := { State.reset.notices with bottom := 32 }
    bayA := { BayContext.powerOn with state := .releasing }
    swap := some buttonRelease
    drop := { State.reset.drop with state := .quiet, starting := none, sampleDue := some 45 } }

/-- A strike sample (R135). -/
def strikeSample : Accel := ⟨6000, 0, 0⟩

/-- The state after the strike. -/
def strikeOutOfRangeAfter : State :=
  State.refresh strikeOutOfRange {} ((strikeOutOfRange.atSample 45).sample (some strikeSample)).driveLines

/-- The kind byte of the notice RELEASE_REFUSED stands in the first impact store place. -/
theorem strikeOutOfRange_written :
    Memory.read strikeOutOfRangeAfter.port.memory 0x0C02 ≠ Memory.read strikeOutOfRange.port.memory 0x0C02 := by
  decide +kernel

theorem exec_strikeOutOfRange : exec (.accelSample strikeSample) strikeOutOfRange = .next strikeOutOfRangeAfter := by
  have hplaces : (strikeOutOfRange.impact.places !=
      ((strikeOutOfRange.atSample 45).sample (some strikeSample)).impact.places) = false := by decide +kernel
  show finishWith _ strikeOutOfRange _ = _
  rw [hplaces]
  rfl

theorem strikeOutOfRange_shaped : strikeOutOfRange.Shaped := by
  unfold State.Shaped
  decide +kernel

theorem strikeOutOfRange_noFall : strikeOutOfRange.NoFall := by
  unfold State.NoFall
  decide

theorem strikeSample_notLow : ¬ strikeOutOfRange.Low strikeSample := by
  unfold State.Low
  decide

theorem strikeSample_strikes : strikeOutOfRange.Strike strikeSample := by
  unfold State.Strike
  decide

/-- Refutes O57: nothing in its hypotheses keeps NOTICE_BOTTOM below 32, so the notice of a release that a strike ends
may be written outside the notice list, where the statement's frame lets no byte change. -/
theorem not_fallsBegin : ¬ Obligations.FallsBegin := by
  intro h
  obtain ⟨-, begins⟩ := h
  obtain ⟨ends, -⟩ := begins strikeSample strikeOutOfRange ⟨rfl, rfl, rfl⟩ strikeOutOfRange_shaped 45 rfl
    (.inl ⟨strikeOutOfRange_noFall, rfl⟩)
  have asks : strikeOutOfRange.AsksAlone buttonRelease := fun k n hk => by cases hk
  obtain ⟨-, strikes⟩ := ends buttonRelease rfl nofun (.inl rfl) rfl strikeOutOfRange_noFall ⟨rfl, rfl, rfl⟩ asks nofun
    nofun
  obtain ⟨t, ht, -, -, -, -, -, -, -, -, -, bytes⟩ := strikes (.inl rfl) strikeSample_notLow strikeSample_strikes
  obtain rfl : strikeOutOfRangeAfter = t := Host.Outcome.next.inj (exec_strikeOutOfRange.symm.trans ht)
  exact strikeOutOfRange_written (bytes 0x0C02 (by decide))

end Sys2Proof.Machine.ReleasingPack
end

section
/-! SUPPORT. The invariants that every step keeps, as one family: what each of them reads of the block, and what it means
that the work of a command keeps all of them but a few. -/

namespace Sys2Proof.Machine.TheHoldSet

open Sys2Proof.Machine.PowerSources

/-- The invariants of a step that the statement on shapes names. -/
inductive Invariant where
  | shaped
  | store
  | fall
  | latch
  | display
  | read
deriving DecidableEq

/-- A state meets an invariant. -/
def Meets (s : State) : Invariant → Prop
  | .shaped => s.Shaped
  | .store => s.StoreLimits
  | .fall => s.FallAgrees
  | .latch => s.LatchAgrees
  | .display => s.DisplayAgrees
  | .read => s.ReadAgrees

/-- The parts of the block that an invariant reads. -/
def Invariant.reads : Invariant → List Part
  | .shaped => [.acceptance, .impact, .bright, .holds, .drop]
  | .store => [.impact]
  | .fall => [.holds, .drop]
  | .latch => [.bay .a, .bay .b, .swap, .holds]
  | .display => [.bright, .power]
  | .read => [.answer, .pins]

theorem shaped_congr {s t : State} (h : ∀ p ∈ Invariant.shaped.reads, Same s t p) : s.Shaped → t.Shaped := by
  have hacceptance : t.port.acceptance = s.port.acceptance := h .acceptance (by decide)
  have himpact : t.impact = s.impact := h .impact (by decide)
  have hbright : t.bright = s.bright := h .bright (by decide)
  have hholds : t.holds.entries = s.holds.entries := h .holds (by decide)
  have hdrop : t.drop = s.drop := h .drop (by decide)
  unfold State.Shaped
  rw [hacceptance, himpact, hbright, hholds, hdrop, inForce_congr hholds]
  exact id

theorem fallAgrees_congr {s t : State} (h : ∀ p ∈ Invariant.fall.reads, Same s t p) :
    s.FallAgrees → t.FallAgrees := by
  have hholds : t.holds.entries = s.holds.entries := h .holds (by decide)
  have hdrop : t.drop = s.drop := h .drop (by decide)
  unfold State.FallAgrees State.AllFall State.NoFall HoldSet.holds
  rw [hholds, hdrop]
  exact id

theorem latchAgrees_congr {s t : State} (h : ∀ p ∈ Invariant.latch.reads, Same s t p) :
    s.LatchAgrees → t.LatchAgrees := by
  have hbay : t.bay = s.bay := funext fun b => h (.bay b) (by cases b <;> decide)
  have hswap : t.swap = s.swap := h .swap (by decide)
  have hforce : t.holds.inForce = s.holds.inForce := funext (inForce_congr (h .holds (by decide)))
  unfold State.LatchAgrees State.ReleaseAgrees State.PathRule State.SwapRule State.TimerRule
  rw [hbay, hswap, hforce]
  exact id

theorem displayAgrees_of_same {s t : State} (hdisplay : t.bright.display = s.bright.display)
    (hsetting : t.bright.displaySetting = s.bright.displaySetting) (hplatform : t.power.platform = s.power.platform) :
    s.DisplayAgrees → t.DisplayAgrees := by
  unfold State.DisplayAgrees
  rw [hdisplay, hsetting, hplatform]
  exact id

theorem storeLimits_congr {s t : State} (h : t.impact = s.impact) : s.StoreLimits → t.StoreLimits := by
  unfold State.StoreLimits
  rw [h]
  exact id

theorem readAgrees_of_same {s t : State} (hanswer : t.port.answer = s.port.answer)
    (hpins : t.pins.hostPresent = s.pins.hostPresent) : s.ReadAgrees → t.ReadAgrees := by
  unfold State.ReadAgrees
  rw [hanswer, hpins]
  exact id

/-- An invariant stands while the parts that it reads stay as they are. -/
theorem meets_congr {s t : State} {i : Invariant} (h : ∀ p ∈ i.reads, Same s t p) : Meets s i → Meets t i := by
  cases i with
  | shaped => exact shaped_congr h
  | store => exact storeLimits_congr (h .impact (by decide))
  | fall => exact fallAgrees_congr h
  | latch => exact latchAgrees_congr h
  | display =>
    have hbright : t.bright = s.bright := h .bright (by decide)
    have hinner : t.power.inner = s.power.inner := h .power (by decide)
    exact displayAgrees_of_same (by rw [hbright]) (by rw [hbright])
      (congrArg PowerUnit.platform hinner : t.power.inner.platform = s.power.inner.platform)
  | read =>
    have hpins : t.pins = s.pins := h .pins (by decide)
    exact readAgrees_of_same (h .answer (by decide)) (by rw [hpins])

/-- Every invariant but the listed ones is kept between two states. -/
def Keeps (but : List Invariant) (s t : State) : Prop := ∀ i, i ∉ but → Meets s i → Meets t i

theorem Keeps.refl (but : List Invariant) (s : State) : Keeps but s s := fun _ _ h => h

theorem Keeps.trans {but : List Invariant} {s t u : State} (h : Keeps but s t) (h' : Keeps but t u) : Keeps but s u :=
  fun i hi hs => h' i hi (h i hi hs)

theorem Keeps.mono {but but' : List Invariant} {s t : State} (h : Keeps but s t) (hl : but ⊆ but') : Keeps but' s t :=
  fun i hi => h i (fun hm => hi (hl hm))

/-- What keeps all but one invariant and keeps that one too. -/
theorem Keeps.and {but : List Invariant} {i : Invariant} {s t : State} (h : Keeps (i :: but) s t)
    (hi : Meets s i → Meets t i) : Keeps but s t := by
  intro j hj
  by_cases hji : j = i
  · subst hji
    exact hi
  · exact h j (by simp [hji, hj])

theorem Keeps.ite {but : List Invariant} {c : Prop} [Decidable c] {s t u : State} (h : c → Keeps but s t)
    (h' : ¬ c → Keeps but s u) : Keeps but s (if c then t else u) := by
  split
  · exact h ‹_›
  · exact h' ‹_›

/-- The invariants. -/
def invariants : List Invariant := [.shaped, .store, .fall, .latch, .display, .read]

/-- A frame that leaves alone what every invariant but the listed ones reads. -/
abbrev Clear (but : List Invariant) (L : List Part) : Prop := ∀ i ∈ invariants, i ∈ but ∨ ∀ p ∈ i.reads, p ∉ L

theorem Keeps.of_kept {but : List Invariant} {L : List Part} {s t : State} (h : Kept L s t) (hL : Clear but L) :
    Keeps but s t := by
  intro i hi
  have hall : i ∈ invariants := by cases i <;> decide
  exact meets_congr fun p hp => h p ((hL i hall).resolve_left hi p hp)

end Sys2Proof.Machine.TheHoldSet
end

section
/-! SUPPORT. The agreement of the latches with the release, said of each bay: a bay that no release names is at rest, and
the bay of the release in progress is RELEASING with its latch as the phase allows (R1, R3, R69, R80, R83, R89, R102). -/

namespace Sys2Proof.Machine.TheHoldSet

open Sys2Proof.Machine.PowerSources

/-- A bay that no release names. -/
structure Rests (c : BayContext) : Prop where
  state : c.state ≠ .releasing
  path : c.pathClosed = true → c.state = .online
  seating : c.seatingTimer.isSome = true → c.state = .seating
  jolt : c.jolt.isSome = true → c.state = .jolted
  latch : c.latch.isOpening = false

/-- The bay of a release, apart from its latch. -/
structure Releases (c : BayContext) (w : SwapContext) : Prop where
  state : c.state = .releasing
  path : c.pathClosed = true → w.pathReclosed = true
  seating : c.seatingTimer = none
  jolt : c.jolt = none

/-- The latch of a release's bay, and the release's phase, with its LATCH kind in force or not. -/
structure LatchAllowed (c : BayContext) (w : SwapContext) (force : Bool) : Prop where
  latch : c.latch.isOpening = true → force = false ∧ (w.phase = .unlatching ∨ w.phase = .waiting)
  force : w.phase ≠ .relatching → force = false
  switching : w.switchingTimer.isSome = true → w.phase = .switching

/-- No release names a bay. -/
def Unnamed (s : State) (x : Bay) : Prop := ∀ w : SwapContext, s.swap = some w → w.bay ≠ x

theorem isOpening_iff (l : LatchState) : l.isOpening = true ↔ l = .opening ∨ l = .opened := by
  cases l <;> simp [LatchState.isOpening]

theorem rests_of_latchAgrees {s : State} (h : s.LatchAgrees) {x : Bay} (hx : Unnamed s x) : Rests (s.bay x) := by
  obtain ⟨hbays, hlatch, -⟩ := h
  obtain ⟨hpath, hswap, hseating, hjolt⟩ := hbays x
  have hstate : (s.bay x).state ≠ .releasing := fun hr => by
    obtain ⟨w, hw, hwx⟩ := hswap.1 hr
    exact hx w hw hwx
  refine ⟨hstate, fun hp => (hpath hp).resolve_right fun hr => hstate hr.1, hseating, hjolt, ?_⟩
  rw [← Bool.not_eq_true, isOpening_iff]
  exact fun hl => hstate (hlatch x hl).1

theorem releases_of_latchAgrees {s : State} (h : s.LatchAgrees) {w : SwapContext} (hw : s.swap = some w) :
    Releases (s.bay w.bay) w := by
  obtain ⟨hbays, -, -⟩ := h
  obtain ⟨hpath, hswap, hseating, hjolt⟩ := hbays w.bay
  have hstate : (s.bay w.bay).state = .releasing := hswap.2 ⟨w, hw, rfl⟩
  refine ⟨hstate, fun hp => ?_, ?_, ?_⟩
  · rcases hpath hp with hp | ⟨-, v, hv, -, hp⟩
    · simp [hstate] at hp
    · rw [hw, Option.some_inj] at hv
      rwa [hv]
  · by_contra hn
    have := hseating (Option.isSome_iff_ne_none.2 hn)
    simp [hstate] at this
  · by_contra hn
    have := hjolt (Option.isSome_iff_ne_none.2 hn)
    simp [hstate] at this

theorem latchAllowed_of_latchAgrees {s : State} (h : s.LatchAgrees) {w : SwapContext} (hw : s.swap = some w) :
    LatchAllowed (s.bay w.bay) w (s.holds.inForce (.latch w.bay)) := by
  obtain ⟨-, hlatch, hrelease⟩ := h
  obtain ⟨hforce, htimer⟩ := hrelease w hw
  refine ⟨fun hl => ?_, hforce, htimer⟩
  obtain ⟨-, hnone, v, hv, -, hphase⟩ := hlatch w.bay ((isOpening_iff _).1 hl)
  rw [hw, Option.some_inj] at hv
  exact ⟨hnone, hv ▸ hphase⟩

theorem latchAgrees_intro {s : State} (hrest : ∀ x, Unnamed s x → Rests (s.bay x))
    (hrelease : ∀ w, s.swap = some w →
      Releases (s.bay w.bay) w ∧ LatchAllowed (s.bay w.bay) w (s.holds.inForce (.latch w.bay))) : s.LatchAgrees := by
  refine ⟨fun x => ?_, fun x hl => ?_, fun w hw => ⟨(hrelease w hw).2.force, (hrelease w hw).2.switching⟩⟩
  · by_cases hx : Unnamed s x
    · have hr := hrest x hx
      exact ⟨fun hp => .inl (hr.path hp), ⟨fun h => absurd h hr.state, fun ⟨w, hw, hwx⟩ => absurd hwx (hx w hw)⟩,
        hr.seating, hr.jolt⟩
    · simp only [Unnamed, not_forall, not_not] at hx
      obtain ⟨w, hw, rfl⟩ := hx
      have hr := (hrelease w hw).1
      exact ⟨fun hp => .inr ⟨hr.state, w, hw, rfl, hr.path hp⟩, ⟨fun _ => ⟨w, hw, rfl⟩, fun _ => hr.state⟩,
        by simp [hr.seating], by simp [hr.jolt]⟩
  · rw [← isOpening_iff] at hl
    by_cases hx : Unnamed s x
    · simp [(hrest x hx).latch] at hl
    · simp only [Unnamed, not_forall, not_not] at hx
      obtain ⟨w, hw, rfl⟩ := hx
      obtain ⟨hr, ha⟩ := hrelease w hw
      obtain ⟨hforce, hphase⟩ := ha.latch hl
      exact ⟨hr.state, hforce, w, hw, rfl, hphase⟩

/-- The latches agree exactly when the bays that no release names rest, and that of the release is as its phase allows. -/
theorem latchAgrees_iff (s : State) : s.LatchAgrees ↔ (∀ x, Unnamed s x → Rests (s.bay x)) ∧
    ∀ w, s.swap = some w →
      Releases (s.bay w.bay) w ∧ LatchAllowed (s.bay w.bay) w (s.holds.inForce (.latch w.bay)) :=
  ⟨fun h => ⟨fun _ => rests_of_latchAgrees h, fun _ hw =>
    ⟨releases_of_latchAgrees h hw, latchAllowed_of_latchAgrees h hw⟩⟩,
    fun h => latchAgrees_intro h.1 h.2⟩

/-- The other bay of a release rests. -/
theorem rests_otherBay {s : State} (h : s.LatchAgrees) {w : SwapContext} (hw : s.swap = some w) :
    Rests (s.bay (otherBay w.bay)) := by
  refine rests_of_latchAgrees h fun v hv => ?_
  rw [hw, Option.some_inj] at hv
  rw [← hv]
  exact (otherBay_ne w.bay).symm

theorem unnamed_of_not_releasing {s : State} (h : s.LatchAgrees) {x : Bay} (hx : (s.bay x).state ≠ .releasing) :
    Unnamed s x := by
  rintro w hw rfl
  exact hx (releases_of_latchAgrees h hw).state

/-- With no release in progress both bays rest. -/
theorem latchAgrees_of_no_release {s : State} (hswap : s.swap = none) (h : ∀ x, Rests (s.bay x)) : s.LatchAgrees :=
  latchAgrees_intro (fun x _ => h x) (by simp [hswap])

/-- Holds that leave the LATCH kinds in force no more than before keep the agreement. -/
theorem latchAgrees_of_force {s t : State} (hbay : ∀ x, t.bay x = s.bay x) (hswap : t.swap = s.swap)
    (hforce : ∀ x, t.holds.inForce (.latch x) = true → s.holds.inForce (.latch x) = true) :
    s.LatchAgrees → t.LatchAgrees := by
  simp only [latchAgrees_iff, Unnamed, hbay, hswap]
  refine fun ⟨hrest, hrelease⟩ => ⟨hrest, fun w hw => ?_⟩
  obtain ⟨hr, ha⟩ := hrelease w hw
  have hless : s.holds.inForce (.latch w.bay) = false → t.holds.inForce (.latch w.bay) = false := fun hf => by
    rw [← Bool.not_eq_true] at hf ⊢
    exact fun ht => hf (hforce _ ht)
  exact ⟨hr, fun hl => ⟨hless (ha.latch hl).1, (ha.latch hl).2⟩, fun hp => hless (ha.force hp), ha.switching⟩

/-! ### Changes of a bay context -/

/-- A change of a bay context that a release in progress, and none, both allow. -/
structure Moves (c d : BayContext) : Prop where
  rests : Rests c → Rests d
  releases : ∀ w : SwapContext, Releases c w → Releases d w
  latch : d.latch.isOpening = true → c.latch.isOpening = true

/-- The fields of a bay context that the agreement reads, apart from the latch, are the same in two. -/
structure SameRelease (c d : BayContext) : Prop where
  state : d.state = c.state
  path : d.pathClosed = c.pathClosed
  seating : d.seatingTimer = c.seatingTimer
  jolt : d.jolt.isSome = c.jolt.isSome

theorem Moves.of_same {c d : BayContext} (h : SameRelease c d)
    (hl : d.latch.isOpening = true → c.latch.isOpening = true) :
    Moves c d := by
  obtain ⟨hstate, hpath, hseating, hjolt⟩ := h
  refine ⟨fun hr => ⟨?_, ?_, ?_, ?_, ?_⟩, fun w hr => ⟨?_, ?_, ?_, ?_⟩, hl⟩
  · rw [hstate]
    exact hr.state
  · rw [hpath, hstate]
    exact hr.path
  · rw [hseating, hstate]
    exact hr.seating
  · rw [hjolt, hstate]
    exact hr.jolt
  · rw [← Bool.not_eq_true]
    exact fun h => by simp [hr.latch] at hl; simp [hl] at h
  · exact hstate.trans hr.state
  · rw [hpath]
    exact hr.path
  · exact hseating.trans hr.seating
  · rw [← Option.not_isSome_iff_eq_none, hjolt, hr.jolt]
    simp

/-- A bay that is not RELEASING comes to rest in another context, with its latch. -/
theorem Moves.of_rests {c d : BayContext} (h : c.state ≠ .releasing)
    (hr : c.latch.isOpening = false → Rests c → Rests d)
    (hl : d.latch = c.latch) : Moves c d :=
  ⟨fun hc => hr hc.latch hc, fun _ hc => absurd hc.state h, fun ho => hl ▸ ho⟩

theorem latchAgrees_setBay {s : State} {b : Bay} {c : BayContext} (h : s.LatchAgrees → Moves (s.bay b) c) :
    s.LatchAgrees → (s.setBay b c).LatchAgrees := by
  intro hs
  have hm := h hs
  refine latchAgrees_intro (fun x hx => ?_) fun w hw => ?_
  · have hrest := rests_of_latchAgrees hs (x := x) hx
    by_cases hxb : x = b
    · subst hxb
      rw [State.bay_setBay]
      exact hm.rests hrest
    · rw [State.bay_setBay_ne _ hxb]
      exact hrest
  · have hr := releases_of_latchAgrees hs hw
    have ha := latchAllowed_of_latchAgrees hs hw
    by_cases hwb : w.bay = b
    · subst hwb
      rw [State.bay_setBay]
      exact ⟨hm.releases w hr, fun hl => ha.latch (hm.latch hl), ha.force, ha.switching⟩
    · rw [State.bay_setBay_ne _ hwb]
      exact ⟨hr, ha⟩

theorem setBay_keeps {s : State} {b : Bay} {c : BayContext} (h : s.LatchAgrees → Moves (s.bay b) c) :
    Keeps [] s (s.setBay b c) :=
  (Keeps.of_kept (setBay_kept s b c) (by cases b <;> decide)).and (i := .latch) (latchAgrees_setBay h)

theorem putBay_keeps_but (s : State) (b : Bay) (c : BayContext) : Keeps [.latch] s (s.putBay b c) :=
  (Keeps.of_kept (putBay_kept s b c) (by cases b <;> decide)).and (i := .display) (displayAgrees_of_same rfl rfl rfl)

theorem putBay_keeps {s : State} {b : Bay} {c : BayContext} (h : s.LatchAgrees → Moves (s.bay b) c) :
    Keeps [] s (s.putBay b c) :=
  (putBay_keeps_but s b c).and (i := .latch) fun hs =>
    latchAgrees_congr (s := s.setBay b c) (fun p hp => by
      cases p with
      | bay x => rfl
      | swap => rfl
      | holds => rfl
      | _ => simp [Invariant.reads] at hp) (latchAgrees_setBay h hs)

/-! ### The entries to bay states -/

theorem drivenClosed_moves (c : BayContext) (now : Instant) : Moves c (c.drivenClosed now) := by
  unfold BayContext.drivenClosed
  split
  · exact .of_same ⟨rfl, rfl, rfl, rfl⟩ (by simp [BayContext.closing, LatchState.isOpening])
  · exact .of_same ⟨rfl, rfl, rfl, rfl⟩ id

theorem vacated_moves {c : BayContext} (h : c.state ≠ .releasing) : Moves c c.vacated :=
  .of_rests h (fun hl _ => ⟨by simp [BayContext.vacated], by simp [BayContext.vacated], by simp [BayContext.vacated],
    by simp [BayContext.vacated], hl⟩) rfl

theorem seated_moves {c : BayContext} (h : c.state ≠ .releasing) (now : Instant) : Moves c (c.seated now) :=
  .of_rests h (fun hl _ => ⟨by simp [BayContext.seated], by simp [BayContext.seated, BayContext.vacated],
    by simp [BayContext.seated], by simp [BayContext.seated, BayContext.vacated], hl⟩) rfl

theorem reading_moves {c : BayContext} (h : c.state ≠ .releasing) : Moves c c.reading :=
  .of_rests h (fun hl _ => ⟨by simp [BayContext.reading], by simp [BayContext.reading, BayContext.vacated],
    by simp [BayContext.reading, BayContext.vacated], by simp [BayContext.reading, BayContext.vacated], hl⟩) rfl

/-- A bay enters ONLINE from a state other than RELEASING and SEATING. -/
theorem onlined_moves {c d : BayContext} (h : c.state ≠ .releasing) (hs : c.state ≠ .seating)
    (hseat : d.seatingTimer = c.seatingTimer) (hl : d.latch = c.latch) (now : Instant) : Moves c (d.onlined now) :=
  .of_rests h (fun hc hr => ⟨by simp [BayContext.onlined], by simp [BayContext.onlined], fun ht =>
    absurd (hr.seating (hseat ▸ ht)) hs, by simp [BayContext.onlined], by
      show d.latch.isOpening = false
      rw [hl]
      exact hc⟩) hl

theorem driveClose_keeps (s : State) (b : Bay) : Keeps [] s (s.driveClose b) :=
  putBay_keeps fun _ => drivenClosed_moves _ _

end Sys2Proof.Machine.TheHoldSet
end

section
/-! SUPPORT. The limits of the impact store under its operations: amendments, stamp outcomes, closes, pins, clears and
openings (R158 to R166). -/

namespace Sys2Proof.Machine.TheHoldSet

/-- The limits of the impact store, said of the store alone. -/
def Limited (u : ImpactStore) : Prop :=
  u.pinnedCount ≤ 12 ∧ u.openCount ≤ 2 ∧ 1 ≤ u.nextSequence ∧ u.nextSequence ≤ 4294967296 ∧
    (u.records.map (·.sequence)).Nodup ∧ ∀ r ∈ u.records, 1 ≤ r.sequence ∧ r.sequence < u.nextSequence

theorem storeLimits_iff (s : State) : s.StoreLimits ↔ Limited s.impact := Iff.rfl

theorem pinnedCount_eq (u : ImpactStore) : u.pinnedCount = u.records.countP (·.pinned) :=
  List.countP_eq_length_filter.symm

theorem openCount_eq (u : ImpactStore) : u.openCount = u.records.countP (·.isOpen) :=
  List.countP_eq_length_filter.symm

/-! ### Records changed in their places -/

/-- What becomes of a record when the record of a sequence changes. -/
def changedAt (q : Nat) (f : ImpactRecord → ImpactRecord) (r : ImpactRecord) : ImpactRecord :=
  if r.sequence = q then f r else r

theorem update_records (u : ImpactStore) (q : Nat) (f : ImpactRecord → ImpactRecord) :
    (u.update q f).records = u.records.map (changedAt q f) := by
  unfold ImpactStore.records ImpactStore.update
  induction u.places with
  | nil => rfl
  | cons p ps ih => cases p <;> simpa [changedAt] using ih

/-- A change of a record that neither renames nor pins nor opens it. -/
structure Tame (f : ImpactRecord → ImpactRecord) : Prop where
  sequence (r : ImpactRecord) : (f r).sequence = r.sequence
  pinned (r : ImpactRecord) : (f r).pinned = true → r.pinned = true
  isOpen (r : ImpactRecord) : (f r).isOpen = true → r.isOpen = true

theorem Tame.changedAt {f : ImpactRecord → ImpactRecord} (h : Tame f) (q : Nat) : Tame (changedAt q f) where
  sequence r := by
    unfold TheHoldSet.changedAt
    split
    · exact h.sequence r
    · rfl
  pinned r := by
    unfold TheHoldSet.changedAt
    split
    · exact h.pinned r
    · exact id
  isOpen r := by
    unfold TheHoldSet.changedAt
    split
    · exact h.isOpen r
    · exact id

theorem map_sequence {f : ImpactRecord → ImpactRecord} (h : ∀ r, (f r).sequence = r.sequence) (l : List ImpactRecord) :
    (l.map f).map (·.sequence) = l.map (·.sequence) := by
  rw [List.map_map]
  exact congrArg (l.map ·) (funext h)

/-- The limits stand while no record is renamed, and the pins and the open records are not more than before. -/
theorem limited_of_renames {u v : ImpactStore} (h : Limited u) (hn : v.nextSequence = u.nextSequence)
    (hs : (v.records.map (·.sequence)).Sublist (u.records.map (·.sequence))) (hp : v.pinnedCount ≤ 12)
    (ho : v.openCount ≤ u.openCount) : Limited v := by
  obtain ⟨-, hopen, hlow, hhigh, hnodup, hrange⟩ := h
  refine ⟨hp, ho.trans hopen, hn ▸ hlow, hn ▸ hhigh, hnodup.sublist hs, fun r hr => ?_⟩
  obtain ⟨q, hq, hqr⟩ := List.mem_map.1 (hs.subset (List.mem_map_of_mem (f := (·.sequence)) hr))
  rw [hn, ← hqr]
  exact hrange q hq

theorem limited_update {u : ImpactStore} {f : ImpactRecord → ImpactRecord} (h : Limited u) (hf : Tame f) (q : Nat) :
    Limited (u.update q f) := by
  have hc := hf.changedAt q
  obtain ⟨hpinned, -⟩ := id h
  refine limited_of_renames h rfl ?_ ?_ ?_
  · rw [update_records, map_sequence hc.sequence]
  · rw [pinnedCount_eq, update_records, List.countP_map]
    exact (List.countP_mono_left fun r _ => hc.pinned r).trans (pinnedCount_eq u ▸ hpinned)
  · rw [openCount_eq, openCount_eq, update_records, List.countP_map]
    exact List.countP_mono_left fun r _ => hc.isOpen r

theorem limited_resolve {u : ImpactStore} (h : Limited u) (q : Nat) (now : Instant) : Limited (u.resolve q now) := by
  unfold ImpactStore.resolve
  split
  · exact limited_update (f := fun r => r.close now) h ⟨fun _ => rfl, fun _ => id, fun _ => nofun⟩ q
  · exact h

/-! ### Pins and clears (R164 to R166) -/

/-- Pinning the record of one sequence pins at most one record more. -/
theorem countP_pinned_le {l : List ImpactRecord} (h : (l.map (·.sequence)).Nodup) (q : Nat) :
    (l.map (changedAt q fun r => { r with pinned := true })).countP (·.pinned) ≤ l.countP (·.pinned) + 1 := by
  induction l with
  | nil => simp
  | cons r rs ih =>
    rw [List.map_cons, List.nodup_cons] at h
    obtain ⟨hr, hrs⟩ := h
    rw [List.map_cons, List.countP_cons, List.countP_cons]
    by_cases hq : r.sequence = q
    · have hsame : rs.map (changedAt q fun r => { r with pinned := true }) = rs := by
        refine (List.map_congr_left fun r' hr' => ?_).trans rs.map_id
        exact if_neg fun he => hr (by rw [hq, ← he]; exact List.mem_map_of_mem (f := (·.sequence)) hr')
      rw [hsame]
      split <;> split <;> omega
    · have hsame : (changedAt q (fun r => { r with pinned := true }) r).pinned = r.pinned := by simp [changedAt, hq]
      rw [hsame]
      have := ih hrs
      omega

theorem limited_pin {u : ImpactStore} (h : Limited u) (hp : u.pinnedCount < 12) (q : Nat) :
    Limited (u.setPin q true) := by
  obtain ⟨-, -, -, -, hnodup, -⟩ := id h
  have hc : ∀ r, (changedAt q (fun r => { r with pinned := true }) r).sequence = r.sequence := fun r => by
    unfold changedAt
    split <;> rfl
  refine limited_of_renames h rfl ?_ ?_ ?_
  · rw [ImpactStore.setPin, update_records, map_sequence hc]
  · rw [pinnedCount_eq, ImpactStore.setPin, update_records]
    rw [pinnedCount_eq] at hp
    exact (countP_pinned_le hnodup q).trans hp
  · rw [openCount_eq, openCount_eq, ImpactStore.setPin, update_records, List.countP_map]
    refine List.countP_mono_left fun r _ => ?_
    simp only [Function.comp_apply, changedAt]
    split <;> exact id

theorem limited_unpin {u : ImpactStore} (h : Limited u) (q : Nat) : Limited (u.setPin q false) :=
  limited_update (f := fun r => { r with pinned := false }) h ⟨fun _ => rfl, fun _ => nofun, fun _ => id⟩ q

theorem cleared_records (u : ImpactStore) : u.cleared.records = u.records.filter (fun r => r.pinned || r.isOpen) := by
  unfold ImpactStore.records ImpactStore.cleared clearedPlaces
  induction u.places with
  | nil => rfl
  | cons p ps ih =>
    cases p with
    | none => exact ih
    | some r =>
      by_cases hr : (r.pinned || r.isOpen) = true
      · simp only [List.map_cons, hr, if_true, List.filterMap_cons, id_eq, List.filter_cons]
        exact congrArg (r :: ·) ih
      · simp only [List.map_cons, hr, List.filterMap_cons, id_eq, List.filter_cons]
        exact ih

theorem limited_cleared {u : ImpactStore} (h : Limited u) : Limited u.cleared := by
  have hsub : u.cleared.records.Sublist u.records := cleared_records u ▸ List.filter_sublist
  obtain ⟨hpinned, -⟩ := id h
  refine limited_of_renames h rfl (hsub.map _) ?_ ?_
  · rw [pinnedCount_eq] at hpinned ⊢
    exact hsub.countP_le.trans hpinned
  · rw [openCount_eq, openCount_eq]
    exact hsub.countP_le

/-! ### Openings (R159) -/

/-- The records of a store whose place has taken a record: those before and after it, and the new one between them. -/
theorem records_set {l : List (Option ImpactRecord)} {i : Nat} (hi : i < l.length) (r : ImpactRecord) :
    (l.set i (some r)).filterMap id = (l.take i).filterMap id ++ r :: (l.drop (i + 1)).filterMap id ∧
      l.filterMap id = (l.take i).filterMap id ++ (l[i].toList ++ (l.drop (i + 1)).filterMap id) := by
  constructor
  · rw [List.set_eq_take_append_cons_drop, if_pos hi, List.filterMap_append]
    rfl
  · conv_lhs => rw [← List.take_append_drop i l, List.drop_eq_getElem_cons hi]
    rw [List.filterMap_append]
    congr 1
    cases l[i] <;> rfl

theorem oldestOf_mem {l : List ImpactRecord} {e : ImpactRecord} (h : oldestOf l = some e) : e ∈ l := by
  induction l generalizing e with
  | nil => simp [oldestOf] at h
  | cons r rs ih =>
    unfold oldestOf at h
    split at h
    · simp_all
    · rename_i q hq
      split at h
      · rw [Option.some_inj] at h
        exact List.mem_cons_of_mem _ (h ▸ ih hq)
      · simp_all

/-- The place that an opening takes is free, or holds a record neither pinned nor open (R159). -/
theorem openPlace_spec {u : ImpactStore} {i : Nat} (h : u.openPlace = some i) :
    ∃ hi : i < u.places.length, ∀ e, u.places[i] = some e → e.pinned = false ∧ e.isOpen = false := by
  unfold ImpactStore.openPlace at h
  split at h
  · rename_i j hj
    rw [Option.some_inj] at h
    subst h
    obtain ⟨hi, hnone, -⟩ := List.findIdx?_eq_some_iff_getElem.1 hj
    exact ⟨hi, fun e he => by simp [he] at hnone⟩
  · split at h
    · rename_i e he
      obtain ⟨hi, hplace, -⟩ := List.findIdx?_eq_some_iff_getElem.1 h
      have hmem := oldestOf_mem he
      simp only [List.mem_filter, Bool.and_eq_true, Bool.not_eq_true'] at hmem
      obtain ⟨-, hfree⟩ := hmem
      refine ⟨hi, fun e' he' => ?_⟩
      rw [decide_eq_true_eq, he', Option.some_inj] at hplace
      exact hplace ▸ hfree
    · simp at h

theorem limited_openRecord {u : ImpactStore} (h : Limited u) (ho : u.openCount < 2) {r : ImpactRecord}
    (hr : r.pinned = false) : Limited (u.openRecord r) := by
  unfold ImpactStore.openRecord
  split
  · exact h
  rename_i hcount
  split
  swap
  · exact h
  rename_i i hi
  obtain ⟨hlt, hfree⟩ := openPlace_spec hi
  obtain ⟨hset, hold⟩ := records_set hlt { r with sequence := u.nextSequence }
  obtain ⟨hpinned, -, hlow, -, hnodup, hrange⟩ := h
  rw [pinnedCount_eq, ImpactStore.records, hold] at hpinned
  rw [openCount_eq, ImpactStore.records, hold] at ho
  rw [ImpactStore.records, hold] at hnodup hrange
  generalize (u.places.take i).filterMap id = before at *
  generalize (u.places.drop (i + 1)).filterMap id = after at *
  have hsub : (before ++ after).Sublist (before ++ (u.places[i].toList ++ after)) :=
    (List.sublist_append_right _ _).append_left _
  have hfresh : ∀ x ∈ before ++ after, 1 ≤ x.sequence ∧ x.sequence < u.nextSequence :=
    fun x hx => hrange x (hsub.subset hx)
  have hmiddle : (before ++ { r with sequence := u.nextSequence } :: after).Perm
      ({ r with sequence := u.nextSequence } :: (before ++ after)) := List.perm_middle
  refine ⟨?_, ?_, by simp, by simp only; omega, ?_, ?_⟩
  · rw [pinnedCount_eq, ImpactStore.records, hset, hmiddle.countP_eq, List.countP_cons_of_neg (by simp [hr])]
    exact hsub.countP_le.trans hpinned
  · rw [openCount_eq, ImpactStore.records, hset, hmiddle.countP_eq]
    have hle := List.countP_cons (p := fun r : ImpactRecord => r.isOpen) (a := { r with sequence := u.nextSequence })
      (l := before ++ after)
    have hless := hsub.countP_le (p := fun r : ImpactRecord => r.isOpen)
    split at hle <;> omega
  · rw [ImpactStore.records, hset, (hmiddle.map _).nodup_iff, List.map_cons, List.nodup_cons]
    refine ⟨fun hm => ?_, hnodup.sublist (hsub.map _)⟩
    obtain ⟨x, hx, he⟩ := List.mem_map.1 hm
    exact absurd he (hfresh x hx).2.ne
  · intro x hx
    rw [ImpactStore.records, hset, hmiddle.mem_iff, List.mem_cons] at hx
    rcases hx with rfl | hx
    · exact ⟨hlow, by simp⟩
    · have := hfresh x hx
      exact ⟨this.1, by simp only; omega⟩

@[simp] theorem openRecord_length (u : ImpactStore) (r : ImpactRecord) :
    (u.openRecord r).places.length = u.places.length := by
  unfold ImpactStore.openRecord
  split
  · rfl
  · split <;> simp

end Sys2Proof.Machine.TheHoldSet
end

section
/-! SUPPORT. How the shared operations on the impact store, the pack link and the bays keep the invariants. -/

namespace Sys2Proof.Machine.TheHoldSet

open Sys2Proof.Machine.PowerSources

/-! ### The shapes, part by part -/

/-- What the shapes say of the hold set: the freeze with its kind, one entry of a pair, STORAGE without SOFTWARE. -/
def HoldShaped (s : State) : Prop :=
  s.bright.frozen = s.holds.inForce .brightFreeze ∧ (s.holds.entries.map (fun e => (e.kind, e.owner))).Nodup ∧
    ∀ e ∈ s.holds.entries, e.kind = .storage → e.owner ≠ .software

/-- What the shapes say of an impact window. -/
def WindowBound (d : DropMonitor) : Prop := ∀ w : ImpactWindow, d.window = some w → w.peakM ≤ 3 * 16000 ^ 2

theorem shaped_iff (s : State) : s.Shaped ↔ s.port.acceptance.length = 24 ∧ s.impact.places.length = 16 ∧ HoldShaped s ∧
    WindowBound s.drop := by
  simp only [State.Shaped, HoldShaped, WindowBound, and_assoc]

/-! ### Work that no invariant sees -/

theorem Keeps.quiet {L : List Part} {s t : State} (h : Kept L s t) (hL : Clear [] L := by decide) : Keeps [] s t :=
  .of_kept h hL

theorem foldl_keeps {α : Type} {but : List Invariant} {f : State → α → State} (h : ∀ s a, Keeps but s (f s a))
    (l : List α) (s : State) : Keeps but s (l.foldl f s) := by
  induction l generalizing s with
  | nil => exact .refl but s
  | cons a l ih => exact (h s a).trans (ih (f s a))

theorem post_keeps (s : State) (kind : NoticeKind) (bay : Option Bay) (flags : Nat) (payload : List Byte) :
    Keeps [] s (s.post kind bay flags payload) := .quiet (post_kept s kind bay flags payload)

theorem setNews_keeps (s : State) (bits : Byte) : Keeps [] s (s.setNews bits) := .quiet (setNews_kept s bits)

theorem reach_keeps (s : State) (t : Instant) : Keeps [] s (s.reach t) := .quiet (reach_kept s t)

theorem link_keeps (s : State) (l : PackLink) : Keeps [] s { s with link := l } := .quiet (link_kept s l)

theorem arbitrate_keeps (s : State) : Keeps [] s s.arbitrate := .quiet (arbitrate_kept s)

theorem join_keeps (s : State) (b : Bay) (w : Work) : Keeps [] s (s.join b w) := .quiet (join_kept s b w)

theorem answer_keeps (s : State) (k : Nat) (status : Status) (reason : Reason) (data : List Byte) :
    Keeps [] s (s.answer k status reason data) := .quiet (answer_kept s k status reason data)

theorem answerAccepted_keeps (s : State) (k n : Nat) (status : Status) (reason : Reason) (data : List Byte) :
    Keeps [] s (s.answerAccepted k n status reason data) := .quiet (answerAccepted_kept s k n status reason data)

theorem accept_keeps (s : State) (k : Nat) : Keeps [] s (s.accept k) :=
  (Keeps.of_kept (but := [.shaped]) (accept_kept s k) (by decide)).and (i := .shaped) fun h => by
    obtain ⟨hacceptance, hrest⟩ := h
    exact ⟨by simpa using hacceptance, hrest⟩

/-! ### The impact store -/

theorem putImpact_keeps {s : State} {u : ImpactStore} (hl : u.places.length = s.impact.places.length)
    (h : Limited s.impact → Limited u) : Keeps [] s (s.putImpact u) :=
  ((Keeps.of_kept (but := [.shaped, .store]) (putImpact_kept s u) (by decide)).and (i := .shaped) fun hs => by
    obtain ⟨hacceptance, hplaces, hrest⟩ := hs
    exact ⟨hacceptance, hl.trans hplaces, hrest⟩).and (i := .store) h

theorem update_keeps {f : ImpactRecord → ImpactRecord} (hf : Tame f) (s : State) (q : Nat) :
    Keeps [] s (s.putImpact (s.impact.update q f)) :=
  putImpact_keeps (update_length _ _ _) fun h => limited_update h hf q

theorem amend_keeps {f : ImpactRecord → ImpactRecord} (hf : Tame f) (s : State) (q : Nat) : Keeps [] s (s.amend q f) := by
  refine update_keeps ⟨fun r => ?_, fun r => ?_, fun r => ?_⟩ s q
  · split
    · exact hf.sequence r
    · rfl
  · split
    · exact hf.pinned r
    · exact id
  · split
    · exact fun _ => ‹_›
    · exact id

theorem putStamps_keeps {s : State} {u : ImpactStore} (hl : u.places.length = s.impact.places.length)
    (h : Limited s.impact → Limited u) (q : Nat) : Keeps [] s (s.putStamps u q) := by
  unfold State.putStamps
  split
  · exact (putImpact_keeps ((resolve_length u q s.clock).trans hl) fun hs => limited_resolve (h hs) q s.clock).trans
      (setNews_keeps _ _)
  · exact putImpact_keeps hl h

theorem setStamp_tame (b : Bay) (o : StampOutcome) : Tame (fun r => r.setStamp b o) :=
  ⟨fun _ => rfl, fun _ => id, fun _ => id⟩

theorem stampOutcome_keeps (s : State) (b : Bay) (o : StampOutcome) (q : Nat) : Keeps [] s (s.stampOutcome b o q) := by
  unfold State.stampOutcome
  split
  · split
    · exact putStamps_keeps (update_length _ _ _) (fun h => limited_update h (setStamp_tame b o) q) q
    · exact .refl [] s
  · exact .refl [] s

theorem stampOutcomes_keeps (s : State) (b : Bay) (o : StampOutcome) (items : List StampItem) :
    Keeps [] s (s.stampOutcomes b o items) :=
  foldl_keeps (f := fun s i => s.stampOutcome b o i.sequence) (fun s i => stampOutcome_keeps s b o i.sequence) items s

theorem joltOutcome_keeps (s : State) (b : Bay) (o : JoltOutcome) : Keeps [] s (s.joltOutcome b o) := by
  unfold State.joltOutcome
  split
  · split
    · exact update_keeps (f := fun r => r.setJolt b o) ⟨fun _ => rfl, fun _ => id, fun _ => id⟩ s _
    · exact .refl [] s
  · exact .refl [] s

theorem limited_decideStamp {u : ImpactStore} (h : Limited u) (s : State) (q : Nat) (b : Bay) :
    Limited (s.decideStamp q b u) := by
  unfold State.decideStamp
  split
  · exact limited_update h (setStamp_tame b .pending) q
  · exact h

theorem settleRecord_keeps (s : State) (q : Nat) : Keeps [] s (s.settleRecord q) := by
  unfold State.settleRecord
  split
  · split
    · refine ((putStamps_keeps ?_ ?_ q).trans (.quiet (handRecord_kept _ _ .a))).trans (.quiet (handRecord_kept _ _ .b))
      · simp
      · exact fun h => limited_decideStamp (limited_decideStamp h s q .a) s q .b
    · exact .refl [] s
  · exact .refl [] s

theorem settlingEnd_keeps (s : State) (records : List Nat) : Keeps [] s (s.settlingEnd records) :=
  foldl_keeps settleRecord_keeps records s

/-! ### Jobs that leave -/

theorem dropJob_keeps (s : State) (o : LinkOutcome) (r : Reason) (j : Job) : Keeps [] s (s.dropJob o r j) := by
  unfold State.dropJob
  split
  · exact stampOutcomes_keeps s _ _ _
  · exact answerAccepted_keeps s _ _ _ _ _
  · exact .refl [] s
  · exact .refl [] s
  · exact .refl [] s

theorem removeJobs_keeps (s : State) (p : Job → Bool) (o : LinkOutcome) (r : Reason) : Keeps [] s (s.removeJobs p o r) :=
  (link_keeps s _).trans (foldl_keeps (fun s j => dropJob_keeps s o r j) _ _)

theorem reportGone_keeps (s : State) (b : Bay) : Keeps [] s (s.reportGone b) :=
  (removeJobs_keeps s _ _ _).trans (arbitrate_keeps _)

theorem withdrawStamp_keeps (s : State) (b : Bay) : Keeps [] s (s.withdrawStamp b) :=
  (removeJobs_keeps s _ _ _).trans (arbitrate_keeps _)

/-! ### Entries to bay states -/

theorem poll_keeps (s : State) (b : Bay) : Keeps [] s (s.poll b) := .quiet (poll_kept s b)

theorem enterReading_keeps {s : State} {b : Bay} (h : s.LatchAgrees → (s.bay b).state ≠ .releasing) :
    Keeps [] s (s.enterReading b) :=
  (putBay_keeps fun hs => reading_moves (h hs)).trans (join_keeps _ b _)

theorem enterOnline_keeps {s : State} {b : Bay} {c : BayContext}
    (h : s.LatchAgrees → Moves (s.bay b) (c.onlined s.clock)) :
    Keeps [] s (s.enterOnline b c) := (putBay_keeps h).trans (poll_keeps _ b)

theorem enterOnline_keeps_but (s : State) (b : Bay) (c : BayContext) : Keeps [.latch] s (s.enterOnline b c) :=
  (putBay_keeps_but s b _).trans ((poll_keeps _ b).mono (by simp))

theorem vacate_keeps {s : State} {b : Bay} (h : s.LatchAgrees → (s.bay b).state ≠ .releasing) : Keeps [] s (s.vacate b) :=
  (putBay_keeps fun hs => vacated_moves (h hs)).trans (reportGone_keeps _ b)

theorem vacate_keeps_but (s : State) (b : Bay) : Keeps [.latch] s (s.vacate b) :=
  (putBay_keeps_but s b _).trans ((reportGone_keeps _ b).mono (by simp))

end Sys2Proof.Machine.TheHoldSet
end

section
/-! SUPPORT. How changes of the hold set keep the invariants, with the release that a hold arrival ends (R83 to R85, R89,
R96, R97, R102, R104). -/

namespace Sys2Proof.Machine.TheHoldSet

open Sys2Proof.Machine.PowerSources

/-! ### Entries removed (R97) -/

/-- The hold set after a release's end, or before it: its entries, or those without a SWAP entry of a latch. -/
def SwapGone (l m : List HoldEntry) : Prop := m = l ∨ ∃ b : Bay, m = removeEntry (.latch b) .swap l

theorem holds_iff (h : HoldSet) (kind : HoldKind) (owner : HoldOwner) :
    h.holds kind owner = true ↔ ∃ e ∈ h.entries, e.kind = kind ∧ e.owner = owner := by simp [HoldSet.holds]

theorem inForce_iff (h : HoldSet) (kind : HoldKind) : h.inForce kind = true ↔ ∃ e ∈ h.entries, e.kind = kind := by
  simp [inForce_eq_any]

theorem mem_removeEntry {kind : HoldKind} {owner : HoldOwner} {l : List HoldEntry} {e : HoldEntry} :
    e ∈ removeEntry kind owner l ↔ e ∈ l ∧ ¬ (e.kind = kind ∧ e.owner = owner) := by
  simp only [removeEntry, List.mem_filter, Bool.not_eq_true', decide_eq_false_iff_not]

/-- Removing an entry takes no entry of another pair away. -/
theorem holds_removed {h g : HoldSet} {kind : HoldKind} {owner : HoldOwner}
    (he : g.entries = removeEntry kind owner h.entries) {k : HoldKind} {o : HoldOwner} (hne : ¬ (k = kind ∧ o = owner)) :
    g.holds k o = h.holds k o := by
  rw [Bool.eq_iff_iff, holds_iff, holds_iff, he]
  refine exists_congr fun e => ?_
  rw [mem_removeEntry]
  constructor
  · rintro ⟨⟨hm, -⟩, hk, ho⟩
    exact ⟨hm, hk, ho⟩
  · rintro ⟨hm, rfl, rfl⟩
    exact ⟨⟨hm, hne⟩, rfl, rfl⟩

theorem inForce_removed {h g : HoldSet} {kind : HoldKind} {owner : HoldOwner}
    (he : g.entries = removeEntry kind owner h.entries) {k : HoldKind} (hg : g.inForce k = true) :
    h.inForce k = true := by
  rw [inForce_iff, he] at hg
  obtain ⟨e, hm, hk⟩ := hg
  exact (inForce_iff h k).2 ⟨e, (mem_removeEntry.1 hm).1, hk⟩

/-- Removing a pair that is not in force by another entry: a kind of another name stays in force. -/
theorem inForce_removed_ne {h g : HoldSet} {kind : HoldKind} {owner : HoldOwner}
    (he : g.entries = removeEntry kind owner h.entries) {k : HoldKind} (hk : k ≠ kind) : g.inForce k = h.inForce k := by
  rw [Bool.eq_iff_iff]
  refine ⟨inForce_removed he, fun hf => ?_⟩
  obtain ⟨e, hm, rfl⟩ := (inForce_iff h k).1 hf
  exact (inForce_iff g _).2 ⟨e, he ▸ mem_removeEntry.2 ⟨hm, fun hn => hk hn.1⟩, rfl⟩

theorem SwapGone.holds {h g : HoldSet} (hg : SwapGone h.entries g.entries) {k : HoldKind} {o : HoldOwner}
    (ho : o ≠ .swap) : g.holds k o = h.holds k o := by
  rcases hg with he | ⟨b, he⟩
  · rw [HoldSet.holds, he]
    rfl
  · exact holds_removed he fun hn => ho hn.2

theorem SwapGone.inForce {h g : HoldSet} (hg : SwapGone h.entries g.entries) {k : HoldKind} (hk : ∀ b, k ≠ .latch b) :
    g.inForce k = h.inForce k := by
  rcases hg with he | ⟨b, he⟩
  · exact inForce_congr he k
  · exact inForce_removed_ne he (hk b)

theorem SwapGone.less {h g : HoldSet} (hg : SwapGone h.entries g.entries) {k : HoldKind} (hf : g.inForce k = true) :
    h.inForce k = true := by
  rcases hg with he | ⟨b, he⟩
  · rwa [inForce_congr he] at hf
  · exact inForce_removed he hf

/-! ### What a change of the entries keeps -/

/-- The drop monitor and its FALL entries are the same in two states. -/
def FallKept (s t : State) : Prop := t.drop = s.drop ∧ ∀ k, t.holds.holds k .fall = s.holds.holds k .fall

theorem noFall_iff (s : State) : s.NoFall ↔ ∀ k, s.holds.holds k .fall = false := by
  simp only [State.NoFall, ← Bool.not_eq_true, holds_iff, not_exists, not_and]
  exact ⟨fun h k e he _ => h e he, fun h e he => h e.kind e he rfl⟩

theorem fallAgrees_of_fallKept {s t : State} (h : FallKept s t) : s.FallAgrees → t.FallAgrees := by
  obtain ⟨hdrop, hfall⟩ := h
  simp only [State.FallAgrees, State.AllFall, noFall_iff, hdrop, hfall]
  exact id

theorem holdShaped_of_sublist {s t : State} (hsub : t.holds.entries.Sublist s.holds.entries)
    (hfreeze : s.bright.frozen = s.holds.inForce .brightFreeze → t.bright.frozen = t.holds.inForce .brightFreeze) :
    HoldShaped s → HoldShaped t := fun ⟨hfrozen, hnodup, hstorage⟩ =>
  ⟨hfreeze hfrozen, hnodup.sublist (hsub.map _), fun e he => hstorage e (hsub.subset he)⟩

theorem removeEntry_sublist (kind : HoldKind) (owner : HoldOwner) (l : List HoldEntry) :
    (removeEntry kind owner l).Sublist l := List.filter_sublist

theorem SwapGone.sublist {l m : List HoldEntry} (h : SwapGone l m) : m.Sublist l := by
  rcases h with rfl | ⟨b, rfl⟩
  · exact .refl _
  · exact removeEntry_sublist _ _ _

/-- A change of the hold set, and of the brightness unit with its display left as it is, keeps what the hold set's own
shapes, its FALL entries and the latches allow. -/
theorem keeps_of_holds {L : List Part} {s t : State} (h : Kept L s t) (hL : Clear [.shaped, .fall, .latch, .display] L)
    (hL' : Part.acceptance ∉ L ∧ Part.impact ∉ L ∧ Part.drop ∉ L)
    (hdisplay : t.bright.display = s.bright.display ∧ t.bright.displaySetting = s.bright.displaySetting ∧
      t.power.platform = s.power.platform)
    (hshaped : HoldShaped s → HoldShaped t) : Keeps [.fall, .latch] s t := by
  obtain ⟨hacceptance, himpact, hdrop⟩ := hL'
  refine (((Keeps.of_kept h hL).mono (but' := [.display, .shaped, .fall, .latch]) (by decide)).and (i := .display)
    (displayAgrees_of_same hdisplay.1 hdisplay.2.1 hdisplay.2.2)).and (i := .shaped) ?_
  have ha : t.port.acceptance = s.port.acceptance := h .acceptance hacceptance
  have hi : t.impact = s.impact := h .impact himpact
  have hd : t.drop = s.drop := h .drop hdrop
  simp only [Meets, shaped_iff, ha, hi, hd]
  exact fun ⟨h1, h2, h3, h4⟩ => ⟨h1, h2, hshaped h3, h4⟩

theorem Keeps.fall {s t : State} (h : Keeps [.fall, .latch] s t) (hf : FallKept s t) : Keeps [.latch] s t :=
  h.and (i := .fall) (fallAgrees_of_fallKept hf)

theorem holdRemove_holdShaped (s : State) (kind : HoldKind) (owner : HoldOwner) :
    HoldShaped s → HoldShaped (s.holdRemove kind owner) := by
  refine holdShaped_of_sublist (removeEntry_sublist _ _ _) fun hfrozen => ?_
  show (if kind = .brightFreeze ∧ s.holds.holds kind owner then (s.holdRemove kind owner).holds.inForce .brightFreeze
    else s.bright.frozen) = _
  split
  · rfl
  rename_i hn
  rw [hfrozen, Bool.eq_iff_iff]
  refine ⟨fun hf => ?_, inForce_removed rfl⟩
  obtain ⟨e, hm, hk⟩ := (inForce_iff _ _).1 hf
  refine (inForce_iff _ _).2 ⟨e, mem_removeEntry.2 ⟨hm, fun he => hn ⟨he.1.symm.trans hk, ?_⟩⟩, hk⟩
  exact (holds_iff _ _ _).2 ⟨e, hm, he⟩

theorem holdRemove_keeps_but (s : State) (kind : HoldKind) (owner : HoldOwner) :
    Keeps [.fall] s (s.holdRemove kind owner) :=
  ((keeps_of_holds (holdRemove_kept s kind owner) (by decide) (by decide) ⟨rfl, rfl, rfl⟩
    (holdRemove_holdShaped s kind owner)).mono (but' := [.latch, .fall]) (by decide)).and (i := .latch)
    (latchAgrees_of_force (fun x => holdRemove_kept s kind owner (.bay x) (by simp)) rfl
      (fun _ => inForce_removed (g := (s.holdRemove kind owner).holds) rfl))

theorem holdRemove_keeps (s : State) (kind : HoldKind) {owner : HoldOwner} (ho : owner ≠ .fall) :
    Keeps [] s (s.holdRemove kind owner) :=
  (holdRemove_keeps_but s kind owner).and (i := .fall) (fallAgrees_of_fallKept
    ⟨rfl, fun _ => holds_removed (g := (s.holdRemove kind owner).holds) rfl fun hn => ho hn.2.symm⟩)

/-! ### The end of a release (R83 to R85) -/

theorem putSwap_keeps_but (s : State) (w : Option SwapContext) : Keeps [.latch] s (s.putSwap w) :=
  .of_kept (putSwap_kept s w) (by decide)

/-- A bay comes to rest with its latch driven closed. -/
theorem rests_drivenClosed {c : BayContext} (now : Instant) (hstate : c.state ≠ .releasing)
    (hpath : c.pathClosed = true → c.state = .online) (hseating : c.seatingTimer = none) (hjolt : c.jolt = none) :
    Rests (c.drivenClosed now) := by
  have hlatch : (c.drivenClosed now).latch.isOpening = false := by
    unfold BayContext.drivenClosed
    split
    · rfl
    · exact Bool.eq_false_iff.2 ‹_›
  have hsame : SameRelease c (c.drivenClosed now) := by
    unfold BayContext.drivenClosed
    split <;> exact ⟨rfl, rfl, rfl, rfl⟩
  obtain ⟨h1, h2, h3, h4⟩ := hsame
  exact ⟨by rwa [h1], by rwa [h2, h1], by simp [h3, hseating], by simp [h4, hjolt], hlatch⟩

theorem endRelease_entries (s : State) (w : SwapContext) (serial : BitVec 64) (e : ReleaseEnd) :
    (s.endRelease w serial e).holds.entries = removeEntry (.latch (otherBay w.bay)) .swap s.holds.entries :=
  reportEnd_kept (((s.putSwap none).holdRemove (.latch (otherBay w.bay)) .swap).driveClose w.bay)
    w serial e .holds (by simp)

theorem endRelease_bay (s : State) (w : SwapContext) (serial : BitVec 64) (e : ReleaseEnd) :
    (s.endRelease w serial e).bay w.bay = (s.bay w.bay).drivenClosed s.clock :=
  Eq.trans (reportEnd_kept _ w serial e (.bay w.bay) (by simp)) (State.bay_putBay _ _ _)

theorem endRelease_otherBay (s : State) (w : SwapContext) (serial : BitVec 64) (e : ReleaseEnd) :
    (s.endRelease w serial e).bay (otherBay w.bay) = s.bay (otherBay w.bay) :=
  endRelease_kept s w serial e (.bay (otherBay w.bay)) (by simp)

theorem endRelease_swap (s : State) (w : SwapContext) (serial : BitVec 64) (e : ReleaseEnd) :
    (s.endRelease w serial e).swap = none := reportEnd_kept _ w serial e .swap (by simp)

/-- The end of a release keeps every invariant but that of the latches, which stands after it if both bays rest. -/
theorem endRelease_keeps_but (s : State) (w : SwapContext) (serial : BitVec 64) (e : ReleaseEnd) :
    Keeps [.latch] s (s.endRelease w serial e) :=
  (((putSwap_keeps_but s none).trans ((holdRemove_keeps _ _ (by simp)).mono (by simp))).trans
    ((driveClose_keeps _ _).mono (by simp))).trans (.of_kept (reportEnd_kept _ w serial e) (by decide))

theorem endRelease_latch {s : State} {w : SwapContext} (serial : BitVec 64) (e : ReleaseEnd)
    (hbay : Rests ((s.bay w.bay).drivenClosed s.clock)) (hother : Rests (s.bay (otherBay w.bay))) :
    (s.endRelease w serial e).LatchAgrees := by
  refine latchAgrees_of_no_release (endRelease_swap s w serial e) fun x => ?_
  by_cases hx : x = w.bay
  · rw [hx, endRelease_bay]
    exact hbay
  · have : x = otherBay w.bay := by
      cases x <;> cases hb : w.bay <;> simp_all [otherBay]
    rw [this, endRelease_otherBay]
    exact hother

theorem onlined_rests {c : BayContext} (now now' : Instant) (h : c.seatingTimer = none) :
    Rests ((c.onlined now).drivenClosed now') :=
  rests_drivenClosed now' (by simp [BayContext.onlined]) (by simp [BayContext.onlined]) h rfl

theorem enterOnline_bay (s : State) (b : Bay) (c : BayContext) : (s.enterOnline b c).bay b = c.onlined s.clock :=
  Eq.trans (poll_kept (s.putBay b (c.onlined s.clock)) b (.bay b) (by simp)) (State.bay_putBay _ _ _)

/-- A release that ends with its bay ONLINE again. -/
theorem endOnline_latch {s : State} {w : SwapContext} (serial : BitVec 64) (e : ReleaseEnd)
    (hseating : (s.bay w.bay).seatingTimer = none) (hother : Rests (s.bay (otherBay w.bay))) :
    ((s.enterOnline w.bay (s.bay w.bay)).endRelease w serial e).LatchAgrees := by
  refine endRelease_latch serial e ?_ ?_
  · rw [enterOnline_bay]
    exact onlined_rests _ _ hseating
  · rwa [enterOnline_kept s w.bay (s.bay w.bay) (.bay (otherBay w.bay)) (by simp)]

theorem endOnline_keeps {s : State} {w : SwapContext} (serial : BitVec 64) (e : ReleaseEnd) (hw : s.swap = some w) :
    Keeps [] s ((s.enterOnline w.bay (s.bay w.bay)).endRelease w serial e) :=
  ((enterOnline_keeps_but s w.bay _).trans (endRelease_keeps_but _ w serial e)).and (i := .latch) fun hs =>
    endOnline_latch serial e (releases_of_latchAgrees hs hw).seating (rests_otherBay hs hw)

theorem relatchComplete_keeps_but (s : State) (w : SwapContext) : Keeps [.latch] s (s.relatchComplete w) :=
  (enterOnline_keeps_but s w.bay _).trans (endRelease_keeps_but _ w _ _)

theorem relatchComplete_entries (s : State) (w : SwapContext) :
    (s.relatchComplete w).holds.entries = removeEntry (.latch (otherBay w.bay)) .swap s.holds.entries := by
  rw [State.relatchComplete, endRelease_entries]
  exact congrArg _ (enterOnline_kept s w.bay (s.bay w.bay) .holds (by simp))

theorem relatchBegun_keeps_but (s : State) (w : SwapContext) (r : Option AbortReason) :
    Keeps [.latch] s (relatchBegun s w r) := (putSwap_keeps_but s _).trans ((driveClose_keeps _ _).mono (by simp))

theorem enterRelatching_keeps_but (s : State) (w : SwapContext) (r : Option AbortReason) :
    Keeps [.latch] s (s.enterRelatching w r) := by
  unfold State.enterRelatching
  dsimp only
  split
  · exact (relatchBegun_keeps_but s w r).trans (relatchComplete_keeps_but _ _)
  · exact (relatchBegun_keeps_but s w r).trans (relatchComplete_keeps_but _ _)
  · exact relatchBegun_keeps_but s w r

theorem enterRelatching_gone (s : State) (w : SwapContext) (r : Option AbortReason) :
    SwapGone s.holds.entries (s.enterRelatching w r).holds.entries := by
  by_cases h : s.latchedFor w
  · rw [enterRelatching_ends r h]
    exact .inr ⟨_, relatchComplete_entries _ _⟩
  · rw [enterRelatching_waits r h]
    exact .inl rfl

/-- RELATCHING leaves the latches in agreement, whatever the latch of the release's bay was and holds are in force. -/
theorem enterRelatching_latch {s : State} {w : SwapContext} (r : Option AbortReason) (hbay : Releases (s.bay w.bay) w)
    (hother : Rests (s.bay (otherBay w.bay))) : (s.enterRelatching w r).LatchAgrees := by
  by_cases h : s.latchedFor w
  · rw [enterRelatching_ends r h]
    exact endOnline_latch (s := s.putSwap (some (w.relatching r))) (w := w.relatching r) _ _ hbay.seating hother
  · rw [enterRelatching_waits r h]
    have hdriven : (relatchBegun s w r).bay w.bay = (s.bay w.bay).drivenClosed s.clock := relatchBegun_bay s w r
    have hmoves := drivenClosed_moves (s.bay w.bay) s.clock
    refine latchAgrees_intro (fun x hx => ?_) fun v hv => ?_
    · have hne : x ≠ w.bay := fun he => hx (w.relatching r) rfl he.symm
      have : x = otherBay w.bay := by cases x <;> cases hb : w.bay <;> simp_all [otherBay]
      rw [this, relatchBegun_kept s w r (.bay (otherBay w.bay)) (by simp)]
      exact hother
    · obtain rfl : w.relatching r = v := Option.some.inj hv
      have hreleases := hmoves.releases w hbay
      show Releases ((relatchBegun s w r).bay w.bay) _ ∧ LatchAllowed ((relatchBegun s w r).bay w.bay) _ _
      rw [hdriven]
      refine ⟨⟨hreleases.state, hreleases.path, hreleases.seating, hreleases.jolt⟩, fun hl => ?_, fun hp => ?_, nofun⟩
      · unfold BayContext.drivenClosed at hl
        split at hl
        · simp [BayContext.closing, LatchState.isOpening] at hl
        · contradiction
      · exact absurd rfl hp

theorem enterRelatching_keeps {s : State} {w : SwapContext} (r : Option AbortReason) (hw : s.swap = some w) :
    Keeps [] s (s.enterRelatching w r) :=
  (enterRelatching_keeps_but s w r).and (i := .latch) fun hs =>
    enterRelatching_latch r (releases_of_latchAgrees hs hw) (rests_otherBay hs hw)

theorem relatchComplete_keeps {s : State} {w : SwapContext} (hw : s.swap = some w) : Keeps [] s (s.relatchComplete w) :=
  endOnline_keeps _ _ hw

end Sys2Proof.Machine.TheHoldSet
end

section
/-! SUPPORT. How an entry added to the hold set keeps the invariants, with the release that its arrival ends, and what the
FALL entries do to them (R89, R96 to R98, R102, R104). -/

namespace Sys2Proof.Machine.TheHoldSet

open Sys2Proof.Machine.PowerSources
open Sys2Proof.Machine.ReleasingPack (withEntries)

/-- The entry that an addition appends (R94, R96). -/
def newEntry (s : State) (kind : HoldKind) (owner : HoldOwner) (expiry : Option Instant) : HoldEntry :=
  { kind := kind, owner := owner, expiry := expiry, created := s.uptime }

/-- The state once the entry has been appended, before its kind enters force (R96). -/
def appended (s : State) (kind : HoldKind) (owner : HoldOwner) (expiry : Option Instant) : State :=
  withEntries s (s.holds.entries ++ [newEntry s kind owner expiry])

theorem holdAppend_eq (s : State) (kind : HoldKind) (owner : HoldOwner) (expiry : Option Instant) :
    s.holdAppend kind owner expiry =
      if s.holds.inForce kind then appended s kind owner expiry
      else (appended s kind owner expiry).enterForce kind owner := rfl

/-! ### The entries after an addition -/

theorem holdArrival_gone (s : State) (b : Bay) (owner : HoldOwner) :
    SwapGone s.holds.entries (s.holdArrival b owner).holds.entries := by
  unfold State.holdArrival
  split
  · split
    · exact enterRelatching_gone s _ _
    · exact .inl rfl
  · exact .inl rfl

theorem enterForce_gone (s : State) (kind : HoldKind) (owner : HoldOwner) :
    SwapGone s.holds.entries (s.enterForce kind owner).holds.entries := by
  cases kind with
  | latch b => exact holdArrival_gone (s.driveClose b) b owner
  | storage => exact .inl rfl
  | brightFreeze => exact .inl rfl

theorem holdAppend_gone (s : State) (kind : HoldKind) (owner : HoldOwner) (expiry : Option Instant) :
    SwapGone (s.holds.entries ++ [newEntry s kind owner expiry]) (s.holdAppend kind owner expiry).holds.entries := by
  rw [holdAppend_eq]
  split
  · exact .inl rfl
  · exact enterForce_gone (appended s kind owner expiry) kind owner

theorem holds_appended (s : State) (kind : HoldKind) (owner : HoldOwner) (expiry : Option Instant) (k : HoldKind)
    (o : HoldOwner) : (appended s kind owner expiry).holds.holds k o =
      (s.holds.holds k o || decide (kind = k ∧ owner = o)) := by
  simp [appended, withEntries, HoldSet.holds, newEntry]

theorem inForce_appended (s : State) (kind : HoldKind) (owner : HoldOwner) (expiry : Option Instant) (k : HoldKind) :
    (appended s kind owner expiry).holds.inForce k = (s.holds.inForce k || decide (kind = k)) := by
  simp [appended, withEntries, inForce_eq_any, newEntry]

/-- After an addition an owner other than SWAP holds what it held, and the pair added. -/
theorem holds_holdAppend (s : State) (kind : HoldKind) (owner : HoldOwner) (expiry : Option Instant) {k : HoldKind}
    {o : HoldOwner} (ho : o ≠ .swap) :
    (s.holdAppend kind owner expiry).holds.holds k o = (s.holds.holds k o || decide (kind = k ∧ owner = o)) :=
  ((holdAppend_gone s kind owner expiry).holds (h := (appended s kind owner expiry).holds) ho).trans
    (holds_appended s kind owner expiry k o)

/-! ### The shapes after an addition -/

theorem enterForce_frozen (s : State) (kind : HoldKind) (owner : HoldOwner) :
    (s.enterForce kind owner).bright.frozen = (s.bright.frozen || decide (kind = .brightFreeze)) := by
  cases kind with
  | latch b =>
    have hbright : ((s.driveClose b).holdArrival b owner).bright = s.bright := by
      unfold State.holdArrival
      split
      · split
        · exact enterRelatching_kept (s.driveClose b) _ _ .bright (by simp)
        · rfl
      · rfl
    show ((s.driveClose b).holdArrival b owner).bright.frozen = _
    simp [hbright]
  | storage => simp [State.enterForce]
  | brightFreeze => simp [State.enterForce]

theorem holdAppend_frozen {s : State} (hs : s.bright.frozen = s.holds.inForce .brightFreeze) (kind : HoldKind)
    (owner : HoldOwner) (expiry : Option Instant) : (s.holdAppend kind owner expiry).bright.frozen =
      (s.holdAppend kind owner expiry).holds.inForce .brightFreeze := by
  rw [(holdAppend_gone s kind owner expiry).inForce (h := (appended s kind owner expiry).holds) (by simp),
    inForce_appended, ← hs, holdAppend_eq]
  split
  · rename_i hforce
    show s.bright.frozen = _
    by_cases hk : kind = .brightFreeze
    · subst hk
      simp [hs, hforce]
    · simp [hk]
  · exact enterForce_frozen _ kind owner

theorem holdAppend_holdShaped {s : State} {kind : HoldKind} {owner : HoldOwner} (hnew : s.holds.holds kind owner = false)
    (hstorage : kind = .storage → owner ≠ .software) (expiry : Option Instant) :
    HoldShaped s → HoldShaped (s.holdAppend kind owner expiry) := by
  rintro ⟨hfrozen, hnodup, hsoftware⟩
  have hsub := (holdAppend_gone s kind owner expiry).sublist
  refine ⟨holdAppend_frozen hfrozen kind owner expiry, .sublist (hsub.map _) ?_, fun e he => ?_⟩
  · rw [List.map_append, List.nodup_append]
    refine ⟨hnodup, by simp, ?_⟩
    simp only [List.map_cons, List.map_nil, List.mem_singleton, List.mem_map]
    rintro p ⟨e, he, rfl⟩ q rfl heq
    obtain ⟨hk, ho⟩ := Prod.mk.inj heq
    rw [← Bool.not_eq_true] at hnew
    exact hnew ((holds_iff _ _ _).2 ⟨e, he, hk, ho⟩)
  · rcases List.mem_append.1 (hsub.subset he) with he | he
    · exact hsoftware e he
    · obtain rfl := List.mem_singleton.1 he
      exact hstorage

/-! ### The latches after an addition -/

/-- The arrival of a hold leaves the latches in agreement when the kind has just entered force. -/
theorem enterForce_latch_agrees {s : State} (hs : s.LatchAgrees) (b : Bay) (owner : HoldOwner) (expiry : Option Instant) :
    ((appended s (.latch b) owner expiry).enterForce (.latch b) owner).LatchAgrees := by
  have hmoves := drivenClosed_moves (s.bay b) s.clock
  have hbay : ((appended s (.latch b) owner expiry).driveClose b).bay b = (s.bay b).drivenClosed s.clock :=
    State.bay_putBay _ _ _
  have hne : ∀ x, x ≠ b → ((appended s (.latch b) owner expiry).driveClose b).bay x = s.bay x := fun x hx =>
    State.bay_putBay_ne _ hx _
  have hrests : ∀ x, Unnamed s x → Rests (((appended s (.latch b) owner expiry).driveClose b).bay x) := fun x hx => by
    have hold := rests_of_latchAgrees hs hx
    by_cases hxb : x = b
    · subst hxb
      rw [hbay]
      exact hmoves.rests hold
    · rwa [hne x hxb]
  have hreleases : ∀ w, s.swap = some w → Releases (((appended s (.latch b) owner expiry).driveClose b).bay w.bay) w :=
    fun w hw => by
      have hold := releases_of_latchAgrees hs hw
      by_cases hwb : w.bay = b
      · rw [hwb] at hold ⊢
        rw [hbay]
        exact hmoves.releases w hold
      · rwa [hne _ hwb]
  show (((appended s (.latch b) owner expiry).driveClose b).holdArrival b owner).LatchAgrees
  unfold State.holdArrival
  cases hw : s.swap with
  | none =>
    rw [show ((appended s (.latch b) owner expiry).driveClose b).swap = none from hw]
    exact latchAgrees_of_no_release hw fun x => hrests x (by simp [Unnamed, hw])
  | some w =>
    have hother : Unnamed s (otherBay w.bay) := fun v hv => by
      rw [hw, Option.some_inj] at hv
      exact hv ▸ (otherBay_ne w.bay).symm
    rw [show ((appended s (.latch b) owner expiry).driveClose b).swap = some w from hw]
    dsimp only
    split
    · exact enterRelatching_latch _ (hreleases w hw) (hrests _ hother)
    · rename_i hn
      refine latchAgrees_intro (fun x hx => hrests x hx) fun v hv => ?_
      obtain rfl : w = v := Option.some.inj (hw.symm.trans hv)
      refine ⟨hreleases w hw, ?_⟩
      obtain ⟨hlatch, hforce, hswitching⟩ := latchAllowed_of_latchAgrees hs hw
      by_cases hwb : w.bay = b
      · have hphase : w.phase = .relatching := by
          by_contra hp
          exact hn ⟨hwb, hp⟩
        refine ⟨fun hl => ?_, fun hp => absurd hphase hp, hswitching⟩
        rw [hwb, hbay] at hl
        have := hlatch (hwb ▸ hmoves.latch hl)
        simp [hphase] at this
      · rw [hne _ hwb]
        have hsame : (appended s (.latch b) owner expiry).holds.inForce (.latch w.bay) =
            s.holds.inForce (.latch w.bay) := by
          rw [inForce_appended]
          simp [Ne.symm hwb]
        refine ⟨fun hl => ?_, fun hp => hsame.trans (hforce hp), hswitching⟩
        exact ⟨hsame.trans (hlatch hl).1, (hlatch hl).2⟩

theorem holdAppend_latch (s : State) (kind : HoldKind) (owner : HoldOwner) (expiry : Option Instant) :
    s.LatchAgrees → (s.holdAppend kind owner expiry).LatchAgrees := by
  intro hs
  have hforce : ∀ x, (kind = .latch x → s.holds.inForce kind = true) →
      (appended s kind owner expiry).holds.inForce (.latch x) = true → s.holds.inForce (.latch x) = true := by
    intro x hk hx
    rw [inForce_appended, Bool.or_eq_true, decide_eq_true_eq] at hx
    exact hx.elim id fun he => he ▸ hk he
  rw [holdAppend_eq]
  split
  · exact latchAgrees_of_force (s := s) (fun _ => rfl) rfl (fun x => hforce x fun _ => ‹_›) hs
  · cases kind with
    | latch b => exact enterForce_latch_agrees hs b owner expiry
    | storage => exact latchAgrees_of_force (s := s) (fun _ => rfl) rfl (fun x => hforce x nofun) hs
    | brightFreeze => exact latchAgrees_of_force (s := s) (fun _ => rfl) rfl (fun x => hforce x nofun) hs

/-! ### What an addition keeps -/

theorem enterForce_display (s : State) (kind : HoldKind) (owner : HoldOwner) :
    (s.enterForce kind owner).bright.display = s.bright.display ∧
      (s.enterForce kind owner).bright.displaySetting = s.bright.displaySetting := by
  cases kind with
  | latch b =>
    have hbright : ((s.driveClose b).holdArrival b owner).bright = s.bright := by
      unfold State.holdArrival
      split
      · split
        · exact enterRelatching_kept (s.driveClose b) _ _ .bright (by simp)
        · rfl
      · rfl
    exact ⟨congrArg (·.display) hbright, congrArg (·.displaySetting) hbright⟩
  | storage => exact ⟨rfl, rfl⟩
  | brightFreeze => exact ⟨rfl, rfl⟩

theorem holdAppend_display (s : State) (kind : HoldKind) (owner : HoldOwner) (expiry : Option Instant) :
    (s.holdAppend kind owner expiry).bright.display = s.bright.display ∧
      (s.holdAppend kind owner expiry).bright.displaySetting = s.bright.displaySetting := by
  rw [holdAppend_eq]
  split
  · exact ⟨rfl, rfl⟩
  · exact enterForce_display (appended s kind owner expiry) kind owner

theorem holdAppend_keeps_but {s : State} {kind : HoldKind} {owner : HoldOwner} (hnew : s.holds.holds kind owner = false)
    (hstorage : kind = .storage → owner ≠ .software) (expiry : Option Instant) :
    Keeps [.fall] s (s.holdAppend kind owner expiry) := by
  have hkept := holdAppend_kept s kind owner expiry
  have hinner : (s.holdAppend kind owner expiry).power.inner = s.power.inner := hkept .power (by decide)
  have hdisplay := holdAppend_display s kind owner expiry
  exact ((keeps_of_holds hkept (by decide) (by decide)
    ⟨hdisplay.1, hdisplay.2, (congrArg PowerUnit.platform hinner :)⟩
    (holdAppend_holdShaped hnew hstorage expiry)).mono (but' := [.latch, .fall]) (by decide)).and (i := .latch)
    (holdAppend_latch s kind owner expiry)

theorem holdAppend_drop (s : State) (kind : HoldKind) (owner : HoldOwner) (expiry : Option Instant) :
    (s.holdAppend kind owner expiry).drop = s.drop := holdAppend_kept s kind owner expiry .drop (by decide)

theorem holdAppend_keeps {s : State} {kind : HoldKind} {owner : HoldOwner} (hnew : s.holds.holds kind owner = false)
    (hstorage : kind = .storage → owner ≠ .software) (hfall : owner ≠ .fall) (expiry : Option Instant) :
    Keeps [] s (s.holdAppend kind owner expiry) :=
  (holdAppend_keeps_but hnew hstorage expiry).and (i := .fall) (fallAgrees_of_fallKept
    ⟨holdAppend_drop s kind owner expiry, fun k => by
      rw [holds_holdAppend s kind owner expiry (by simp)]
      simp [hfall]⟩)

theorem holdAdd_keeps_but (s : State) (kind : HoldKind) {owner : HoldOwner} (ho : owner ≠ .software) :
    Keeps [.fall] s (s.holdAdd kind owner) := by
  unfold State.holdAdd
  split
  · exact .refl _ s
  · exact holdAppend_keeps_but (Bool.eq_false_iff.2 ‹_›) (fun _ => ho) none

theorem holdAdd_keeps (s : State) (kind : HoldKind) {owner : HoldOwner} (ho : owner ≠ .software) (hf : owner ≠ .fall) :
    Keeps [] s (s.holdAdd kind owner) := by
  unfold State.holdAdd
  split
  · exact .refl _ s
  · exact holdAppend_keeps (Bool.eq_false_iff.2 ‹_›) (fun _ => ho) hf none

/-! ### SOFTWARE's entries (R95, R98) -/

/-- A HOLD that replaces the expiry of its entry renames no entry (R98). -/
theorem renew_pairs (h : HoldSet) (kind : HoldKind) (expiry : Option Instant) :
    (h.renew kind expiry).entries.map (fun e => (e.kind, e.owner)) = h.entries.map (fun e => (e.kind, e.owner)) := by
  rw [HoldSet.renew, List.map_map]
  refine List.map_congr_left fun e _ => ?_
  simp only [Function.comp_apply]
  split <;> rfl

theorem holds_of_pairs {h g : HoldSet}
    (hp : g.entries.map (fun e => (e.kind, e.owner)) = h.entries.map (fun e => (e.kind, e.owner))) (k : HoldKind)
    (o : HoldOwner) : g.holds k o = h.holds k o := by
  have hany : ∀ u : HoldSet, u.holds k o = (u.entries.map (fun e => (e.kind, e.owner))).any (· == (k, o)) := fun u => by
    simp [HoldSet.holds, List.any_map, Function.comp_def, Bool.beq_eq_decide_eq]
  rw [hany, hany, hp]

theorem inForce_of_pairs {h g : HoldSet}
    (hp : g.entries.map (fun e => (e.kind, e.owner)) = h.entries.map (fun e => (e.kind, e.owner))) (k : HoldKind) :
    g.inForce k = h.inForce k := by
  have hany : ∀ u : HoldSet, u.inForce k = (u.entries.map (fun e => (e.kind, e.owner))).any (·.1 == k) := fun u => by
    simp [inForce_eq_any, List.any_map, Function.comp_def, Bool.beq_eq_decide_eq]
  rw [hany, hany, hp]

theorem renew_keeps (s : State) (kind : HoldKind) (expiry : Option Instant) :
    Keeps [] s { s with holds := s.holds.renew kind expiry } := by
  have hp := renew_pairs s.holds kind expiry
  have hkept : Kept [.holds] s { s with holds := s.holds.renew kind expiry } := by
    intro p hp
    cases p <;> first | rfl | simp at hp
  refine (((keeps_of_holds hkept (by decide) (by decide) ⟨rfl, rfl, rfl⟩ ?_).fall
    ⟨rfl, fun k => holds_of_pairs hp k _⟩)).and (i := .latch)
    (latchAgrees_of_force (fun _ => rfl) rfl fun x hx => (inForce_of_pairs hp _) ▸ hx)
  rintro ⟨hfrozen, hnodup, hstorage⟩
  refine ⟨hfrozen.trans (inForce_of_pairs hp _).symm, hp ▸ hnodup, fun e he hk ho => ?_⟩
  have hmem : (e.kind, e.owner) ∈ s.holds.entries.map (fun e => (e.kind, e.owner)) :=
    hp ▸ List.mem_map_of_mem (f := fun e : HoldEntry => (e.kind, e.owner)) he
  obtain ⟨e', he', heq⟩ := List.mem_map.1 hmem
  obtain ⟨hk', ho'⟩ := Prod.mk.inj heq
  exact hstorage e' he' (hk'.trans hk) (ho'.trans ho)

theorem holdSoftware_keeps (s : State) {kind : HoldKind} (hk : kind ≠ .storage) (duration : Nat) :
    Keeps [] s (s.holdSoftware kind duration) := by
  unfold State.holdSoftware
  split
  · exact renew_keeps s kind _
  · exact holdAppend_keeps (Bool.eq_false_iff.2 ‹_›) (fun h => absurd h hk) (by simp) _

theorem removeSoftware_keeps (s : State) : Keeps [] s s.removeSoftware :=
  ((holdRemove_keeps s _ (by simp)).trans (holdRemove_keeps _ _ (by simp))).trans (holdRemove_keeps _ _ (by simp))

/-! ### The FALL entries (R96, R97, R143, R151) -/

theorem holdAdd_drop (s : State) (kind : HoldKind) (owner : HoldOwner) : (s.holdAdd kind owner).drop = s.drop :=
  holdAdd_kept s kind owner .drop (by decide)

theorem holds_holdAdd (s : State) (kind : HoldKind) (owner : HoldOwner) {k : HoldKind} {o : HoldOwner} (ho : o ≠ .swap) :
    (s.holdAdd kind owner).holds.holds k o = (s.holds.holds k o || decide (kind = k ∧ owner = o)) := by
  unfold State.holdAdd
  split
  · rename_i h
    by_cases hp : kind = k ∧ owner = o
    · obtain ⟨rfl, rfl⟩ := hp
      simp [h]
    · simp [hp]
  · exact holds_holdAppend s kind owner none ho

theorem addFallEntries_keeps_but (s : State) : Keeps [.fall] s s.addFallEntries :=
  (((holdAdd_keeps_but s _ (by simp)).trans (holdAdd_keeps_but _ _ (by simp))).trans
    (holdAdd_keeps_but _ _ (by simp))).trans (holdAdd_keeps_but _ _ (by simp))

theorem addFallEntries_drop (s : State) : s.addFallEntries.drop = s.drop := by
  simp only [State.addFallEntries, holdAdd_drop]

theorem addFallEntries_allFall (s : State) : s.addFallEntries.AllFall := by
  intro k
  simp only [State.addFallEntries, holds_holdAdd _ _ _ (show HoldOwner.fall ≠ .swap by simp)]
  cases k with
  | latch b => cases b <;> simp
  | storage => simp
  | brightFreeze => simp

theorem removeFallEntries_keeps_but (s : State) : Keeps [.fall] s s.removeFallEntries :=
  (((holdRemove_keeps_but s _ _).trans (holdRemove_keeps_but _ _ _)).trans (holdRemove_keeps_but _ _ _)).trans
    (holdRemove_keeps_but _ _ _)

/-- The drop monitor's entries leave and no other. -/
theorem removeFallEntries_entries (s : State) :
    s.removeFallEntries.holds.entries = s.holds.entries.filter (fun e => decide (e.owner ≠ .fall)) := by
  show removeEntry _ _ (removeEntry _ _ (removeEntry _ _ (removeEntry _ _ s.holds.entries))) = _
  simp only [removeEntry, List.filter_filter]
  refine List.filter_congr fun e _ => ?_
  by_cases ho : e.owner = .fall
  · rcases hk : e.kind with b | _ | _
    · cases b <;> simp [ho]
    · simp [ho]
    · simp [ho]
  · simp [ho]

theorem removeFallEntries_noFall (s : State) : s.removeFallEntries.NoFall := by
  intro e he
  rw [removeFallEntries_entries, List.mem_filter] at he
  simpa using he.2

end Sys2Proof.Machine.TheHoldSet
end

section
/-! SUPPORT. UNHOLD and HOLD_EXPIRY: the SOFTWARE entry that leaves (R97, R99, R100, R104). -/

namespace Sys2Proof.Machine.TheHoldSet

open Sys2Proof.Machine.PowerSources
open Sys2Proof.Machine.ReleasingPack (softwareKind_none softwareKind_code)

/-- The state once SOFTWARE's entry has left, with the frozen mark as the rest of the set has it (R97, R104). -/
def softwareLeft (s : State) (kind : HoldKind) : State := s.holdRemove kind .software

theorem softwareLeft_kept (s : State) (kind : HoldKind) : Kept [.holds, .bright] s (softwareLeft s kind) :=
  holdRemove_kept s kind .software

theorem softwareLeft_bright {s : State} (hs : HoldShaped s) (kind : HoldKind) :
    (softwareLeft s kind).bright = { s.bright with frozen := (softwareLeft s kind).holds.inForce .brightFreeze } := by
  obtain ⟨hfrozen, -⟩ := holdRemove_holdShaped s kind .software hs
  exact congrArg (fun f => { s.bright with frozen := f }) hfrozen

theorem softwareLeft_bytesKept (s : State) (kind : HoldKind) : BytesKept [] s (softwareLeft s kind) := fun _ _ => rfl

/-- An entry of SOFTWARE for another kind leaves STORAGE in force as it was (R103). -/
theorem softwareLeft_storage (s : State) {kind : HoldKind} (h : kind ≠ .storage) :
    (softwareLeft s kind).holds.inForce .storage = s.holds.inForce .storage :=
  inForce_removed_ne (g := (softwareLeft s kind).holds) rfl h.symm

theorem holdShaped_of_shaped {s : State} (h : s.Shaped) : HoldShaped s := by
  obtain ⟨-, -, hholds, -⟩ := (shaped_iff s).1 h
  exact hholds

/-! ### UNHOLD (R99) -/

/-- The answer data of an UNHOLD, with the hold set as it leaves it (R99). -/
def unholdAnswer (s : State) (h : HoldSet) (kind : HoldKind) : List Byte :=
  [byte (holdKindCode kind), byte (if s.holds.holds kind .software then 1 else 0), byte (h.count kind),
    byte h.entries.length]

theorem unholdAnswer_congr {s : State} {g h : HoldSet} (he : g.entries = h.entries) (kind : HoldKind) :
    unholdAnswer s g kind = unholdAnswer s h kind := by
  rw [unholdAnswer, unholdAnswer, HoldSet.count, HoldSet.count, he]

theorem workUnhold_bad {s : State} {k : Nat} (h : s.param k 0 1 = 2 ∨ 3 < s.param k 0 1) :
    workUnhold s k = s.answer k .refused .badParam [] := by
  rw [workUnhold, softwareKind_none h]
  rfl

theorem workUnhold_good {s : State} {k : Nat} {kind : HoldKind} (hstorage : kind ≠ .storage)
    (hp : s.param k 0 1 = holdKindCode kind) :
    workUnhold s k = (softwareLeft s kind).answer k .done .none (unholdAnswer s (softwareLeft s kind).holds kind) := by
  have hflag : flagBit 0 (s.holds.holds kind .software) = if s.holds.holds kind .software then 1 else 0 := by
    cases s.holds.holds kind .software <;> rfl
  rw [workUnhold, hp, softwareKind_code hstorage]
  simp only [State.unholdRequest, State.done, State.holdData, hflag]
  rfl

/-- The state once the entry of an UNHOLD has left, before its answer (R99). -/
def unheld (s : State) (kind : HoldKind) : State := softwareLeft s.popIntake kind

theorem unheld_kept (s : State) (kind : HoldKind) : Kept [.intake, .holds, .bright] s (unheld s kind) :=
  (popIntake_kept s).append (softwareLeft_kept s.popIntake kind)

theorem exec_unhold_of_takes {s : State} {k : Nat} {kind : HoldKind} (hs : s.LinesHold) (hshaped : HoldShaped s)
    (ht : s.Takes k 12) (hstorage : kind ≠ .storage) (hp : s.param k 0 1 = holdKindCode kind) :
    ∃ t, exec .unhold s = .next t ∧ t.holds.entries = removeEntry kind .software s.holds.entries ∧
      t.bright = { s.bright with frozen := t.holds.inForce .brightFreeze } ∧
      t.notices.news = s.notices.news ||| s.answerNews k ∧
      AnsweredBut [.holds, .bright] [holdArea, brightArea] s t k .done .none (unholdAnswer s t.holds kind) := by
  have hexec : exec .unhold s = finish s (s.take 12 workUnhold) := rfl
  have hwork : workUnhold s.popIntake k = (unheld s kind).answer k .done .none
      (unholdAnswer s (unheld s kind).holds kind) :=
    workUnhold_good (s := s.popIntake) hstorage hp
  rw [hexec, take_of_takes ht, hwork]
  generalize hdata : unholdAnswer s (unheld s kind).holds kind = data
  have hanswer := answer_kept (unheld s kind) k .done .none data
  have hkept := (unheld_kept s kind).append hanswer
  have hentries : ((unheld s kind).answer k .done .none data).holds.entries = (unheld s kind).holds.entries :=
    hanswer .holds (by simp)
  have hbright : ((unheld s kind).answer k .done .none data).bright = (unheld s kind).bright := hanswer .bright (by simp)
  have hguard : ((unheld s kind).answer k .done .none data).storageGuardLevel = s.storageGuardLevel :=
    storageGuardLevel_congr (platform_of_kept hkept (by simp))
      ((inForce_congr hentries .storage).trans (softwareLeft_storage s.popIntake hstorage))
  refine ⟨_, rfl, hentries, ?_, ?_, ?_⟩
  · refine (hbright.trans (softwareLeft_bright (s := s.popIntake) hshaped kind)).trans ?_
    exact congrArg (fun f => { s.bright with frozen := f }) (inForce_congr hentries .brightFreeze).symm
  · rw [finished_news {} hs hkept (by simp) (by simp), answer_news]
    rfl
  have hsame : unholdAnswer s (State.refresh s {} ((unheld s kind).answer k .done .none data).driveLines).holds kind =
      data := (unholdAnswer_congr hentries kind).trans hdata
  rw [hsame]
  refine answeredBut_finished {} (takes_lt ht) rfl rfl ?_ ?_
  · exact kept_finished {} hs hkept (by simp [answerParts]) (hkept .hibernate (by simp))
      (.inr (hibernateLevel_of_kept hkept (by simp))) (fun _ => hguard) (by simp [answerParts])
  · have hbytes : BytesKept (answerAreas k) s ((unheld s kind).answer k .done .none data) :=
      answer_bytesKept (unheld s kind) k .done .none data
    exact BytesKept.finished {} hs hkept hbytes (by simp) ⟨rfl, rfl⟩ _ (by simp) (by simp) (by simp) (by simp) (by simp)
      (by simp) (by simp)

/-! ### HOLD_EXPIRY (R100) -/

theorem exec_holdExpiry_of_running {s : State} {kind : HoldKind} {till : Instant} (hs : s.LinesHold)
    (hshaped : HoldShaped s) (hstorage : kind ≠ .storage) (htill : s.holds.softwareExpiry kind = some till) :
    ∃ t, exec (.holdExpiry kind) s = .next t ∧ t.clock = max s.clock till ∧
      t.holds.entries = removeEntry kind .software s.holds.entries ∧
      t.bright = { s.bright with frozen := t.holds.inForce .brightFreeze } ∧
      Kept [.clock, .holds, .bright] s t ∧ BytesKept [holdArea, brightArea] s t := by
  have hexec : exec (.holdExpiry kind) s = finish s (softwareLeft (s.reach till) kind) := by
    simp only [exec, execHoldExpiry, htill]
    rfl
  have hkept : Kept [.clock, .holds, .bright] s (softwareLeft (s.reach till) kind) :=
    (reach_kept s till).append (softwareLeft_kept _ kind)
  have hguard : (softwareLeft (s.reach till) kind).storageGuardLevel = s.storageGuardLevel :=
    storageGuardLevel_congr rfl (softwareLeft_storage (s.reach till) hstorage)
  refine ⟨_, hexec, rfl, rfl, softwareLeft_bright (s := s.reach till) hshaped kind, ?_, ?_⟩
  · exact kept_finished {} hs hkept (by simp) rfl (.inr rfl) (fun _ => hguard) (fun _ => rfl)
  · exact BytesKept.finished {} hs hkept (softwareLeft_bytesKept (s.reach till) kind) (by simp) ⟨rfl, rfl⟩ _ (by simp)
      (by simp) (by simp) (by simp) (by simp) (by simp) (by simp)

/-- Settles O34: an UNHOLD is refused for a kind that SOFTWARE may not hold, and otherwise it, like the expiry, removes
the entry of SOFTWARE alone. -/
theorem softwareEntriesLeave : Obligations.SoftwareEntriesLeave := by
  intro s hs hshaped
  have hholds := holdShaped_of_shaped hshaped
  refine ⟨fun k ht hbad => answered_of_takes (c := .unhold) hs ht rfl (workUnhold_bad (s := s.popIntake) hbad),
    fun kind hstorage => ⟨fun k ht hp => ?_, fun till htill => exec_holdExpiry_of_running hs hholds hstorage htill⟩⟩
  obtain ⟨t, ht, hentries, hrest⟩ := exec_unhold_of_takes hs hholds ht hstorage hp
  refine ⟨t, ht, hentries, ?_⟩
  rwa [unholdAnswer, hentries] at hrest

end Sys2Proof.Machine.TheHoldSet
end

section
/-! SUPPORT. How a release, from its grant to its end, and the latches keep the invariants (R69 to R91). -/

namespace Sys2Proof.Machine.TheHoldSet

open Sys2Proof.Machine.PowerSources

/-! ### The swap context -/

theorem swapOf_some {s : State} {b : Bay} {w : SwapContext} (h : s.swapOf b = some w) : s.swap = some w ∧ w.bay = b := by
  unfold State.swapOf at h
  split at h
  · split at h
    · obtain rfl := Option.some.inj h
      exact ⟨‹_›, ‹_›⟩
    · simp at h
  · simp at h

theorem releaseOf_some {s : State} {b : Bay} {w : SwapContext} (h : s.releaseOf b = some w) :
    s.swap = some w ∧ w.bay = b := by
  unfold State.releaseOf at h
  split at h
  · exact swapOf_some h
  · simp at h

/-- A release's context changes to one of the same bay, that leaves its path and its latch as they may be. -/
theorem putSwap_keeps {s : State} {w v : SwapContext} (hw : s.swap = some w) (hbay : v.bay = w.bay)
    (hpath : w.pathReclosed = true → v.pathReclosed = true)
    (hallowed : ∀ c force, LatchAllowed c w force → LatchAllowed c v force) : Keeps [] s (s.putSwap (some v)) := by
  refine (putSwap_keeps_but s (some v)).and (i := .latch) fun hs => latchAgrees_intro (fun x hx => ?_) fun u hu => ?_
  · refine rests_of_latchAgrees hs fun u hu => ?_
    obtain rfl : w = u := Option.some.inj (hw.symm.trans hu)
    exact hbay ▸ hx v rfl
  · obtain rfl : v = u := Option.some.inj hu
    rw [hbay]
    obtain ⟨hstate, hclosed, hseating, hjolt⟩ := releases_of_latchAgrees hs hw
    exact ⟨⟨hstate, fun hp => hpath (hclosed hp), hseating, hjolt⟩, hallowed _ _ (latchAllowed_of_latchAgrees hs hw)⟩

/-! ### Carrier losses (R90, R91) -/

/-- A failed carry check closes the path of a release's bay again, and a release not yet relatching relatches. -/
theorem recloseFailed_keeps {s : State} {w : SwapContext} (r : CarryResult) (hw : s.swap = some w) :
    Keeps [] s (s.recloseFailed w r) := by
  have hrests (hs : s.LatchAgrees) :
      Rests ((s.putBay w.bay { s.bay w.bay with pathClosed := true }).bay (otherBay w.bay)) := by
    rw [State.bay_putBay_ne _ (otherBay_ne w.bay)]
    exact rests_otherBay hs hw
  have hreleases (hs : s.LatchAgrees) :
      Releases ((s.putBay w.bay { s.bay w.bay with pathClosed := true }).bay w.bay) (w.reclosed r) := by
    obtain ⟨hstate, -, hseating, hjolt⟩ := releases_of_latchAgrees hs hw
    rw [State.bay_putBay]
    exact ⟨hstate, fun _ => rfl, hseating, hjolt⟩
  unfold State.recloseFailed
  dsimp only
  split
  · refine ((putBay_keeps_but s _ _).trans (putSwap_keeps_but _ _)).and (i := .latch) fun hs =>
      latchAgrees_intro (fun x hx => ?_) fun v hv => ?_
    · have : x = otherBay w.bay := by
        have : x ≠ w.bay := fun h => hx (w.reclosed r) rfl h.symm
        cases x <;> cases hb : w.bay <;> simp_all [otherBay]
      exact this ▸ hrests hs
    · obtain rfl : w.reclosed r = v := Option.some.inj hv
      refine ⟨hreleases hs, ?_⟩
      obtain ⟨hlatch, hforce, hswitching⟩ := latchAllowed_of_latchAgrees hs hw
      refine ⟨fun hl => hlatch ?_, hforce, hswitching⟩
      have hbay : ((s.putBay w.bay { s.bay w.bay with pathClosed := true }).putSwap (some (w.reclosed r))).bay w.bay =
          { s.bay w.bay with pathClosed := true } := State.bay_putBay _ _ _
      rwa [show (w.reclosed r).bay = w.bay from rfl, hbay] at hl
  · exact ((putBay_keeps_but s _ _).trans (enterRelatching_keeps_but _ _ _)).and (i := .latch) fun hs =>
      enterRelatching_latch (w := w.reclosed r) _ (hreleases hs) (hrests hs)

theorem carrierLoss_keeps (s : State) : Keeps [] s s.carrierLoss := by
  unfold State.carrierLoss
  split
  · exact .refl [] s
  · rename_i w hw
    split
    · exact .refl [] s
    · split
      · exact putSwap_keeps hw rfl id fun _ _ ⟨hlatch, hforce, hswitching⟩ => ⟨hlatch, hforce, hswitching⟩
      · exact recloseFailed_keeps _ hw

theorem lossOf_keeps (s : State) (k : Carrier) : Keeps [] s (s.lossOf k) := by
  unfold State.lossOf
  split
  · exact .ite (fun _ => carrierLoss_keeps s) fun _ => .refl [] s
  · exact .refl [] s

/-! ### What a latch hands on (R72 to R75, R80 to R84) -/

theorem handOpen_keeps (s : State) (b : Bay) : Keeps [] s (s.handOpen b) := by
  unfold State.handOpen
  split
  · rename_i w hw
    obtain ⟨hswap, -⟩ := releaseOf_some hw
    refine .ite (fun hphase => ?_) fun _ => .refl [] s
    refine putSwap_keeps hswap rfl id fun c force ⟨hlatch, hforce, hswitching⟩ => ⟨fun hl => ⟨(hlatch hl).1, .inr rfl⟩,
      fun _ => hforce (by simp [hphase]), fun ht => ?_⟩
    simp [hswitching ht] at hphase
  · exact .refl [] s

theorem handOpenFailed_keeps (s : State) (b : Bay) : Keeps [] s (s.handOpenFailed b) := by
  unfold State.handOpenFailed
  split
  · rename_i w hw
    exact .ite (fun _ => enterRelatching_keeps _ (releaseOf_some hw).1) fun _ => .refl [] s
  · exact .refl [] s

theorem handClosed_keeps (s : State) (b : Bay) : Keeps [] s (s.handClosed b) := by
  unfold State.handClosed
  split
  · rename_i w hw
    obtain ⟨hswap, -⟩ := releaseOf_some hw
    split
    · exact relatchComplete_keeps hswap
    · exact enterRelatching_keeps _ hswap
    · exact .refl [] s
    · exact .refl [] s
  · exact .refl [] s

theorem handStuck_keeps (s : State) (b : Bay) : Keeps [] s (s.handStuck b) := by
  unfold State.handStuck
  split
  · rename_i w hw
    exact .ite (fun _ => relatchComplete_keeps (releaseOf_some hw).1) fun _ => .refl [] s
  · exact .refl [] s

/-- A latch that is left neither OPENING nor OPEN. -/
theorem shut_moves {c d : BayContext} (h : SameRelease c d) (hl : d.latch.isOpening = false) : Moves c d :=
  .of_same h (by simp [hl])

theorem latched_keeps (s : State) (b : Bay) : Keeps [] s (s.putBay b (s.bay b).latched) :=
  putBay_keeps fun _ => shut_moves ⟨rfl, rfl, rfl, rfl⟩ rfl

theorem latchCloses_keeps (s : State) (b : Bay) : Keeps [] s (s.latchCloses b) :=
  (latched_keeps s b).trans (handClosed_keeps _ b)

theorem closing_keeps (s : State) (b : Bay) : Keeps [] s (s.putBay b ((s.bay b).closing s.clock)) :=
  putBay_keeps fun _ => shut_moves ⟨rfl, rfl, rfl, rfl⟩ rfl

theorem stuckAt_keeps (s : State) (b : Bay) : Keeps [] s (s.putBay b ((s.bay b).stuckAt s.clock)) :=
  putBay_keeps fun _ => shut_moves ⟨rfl, rfl, rfl, rfl⟩ rfl

theorem opened_keeps {s : State} {b : Bay} (h : (s.bay b).latch = .opening) :
    Keeps [] s (s.putBay b { s.bay b with latch := .opened, latchTimer := none }) :=
  putBay_keeps fun _ => .of_same ⟨rfl, rfl, rfl, rfl⟩ fun _ => by simp [h, LatchState.isOpening]

theorem latchOpens_keeps {s : State} {b : Bay} (h : (s.bay b).latch = .opening) : Keeps [] s (s.latchOpens b) :=
  (opened_keeps h).trans (handOpen_keeps _ b)

theorem latchReads_keeps (s : State) (b : Bay) (reading : LatchReading) : Keeps [] s (s.latchReads b reading) := by
  unfold State.latchReads
  split
  · exact .ite (fun _ => .refl [] s) fun _ => closing_keeps s b
  · exact .ite (fun _ => latchOpens_keeps ‹_›) fun _ => .refl [] s
  all_goals exact .ite (fun _ => latchCloses_keeps s b) fun _ => .refl [] s

theorem postLatchFault_keeps (s : State) (b : Bay) (d : LatchDirection) : Keeps [] s (s.postLatchFault b d) :=
  post_keeps s _ _ _ _

theorem openUnconfirmed_keeps (s : State) (b : Bay) : Keeps [] s (s.openUnconfirmed b) :=
  ((closing_keeps s b).trans (postLatchFault_keeps _ b _)).trans (handOpenFailed_keeps _ b)

theorem closeUnconfirmed_keeps (s : State) (b : Bay) : Keeps [] s (s.closeUnconfirmed b) :=
  ((stuckAt_keeps s b).trans (postLatchFault_keeps _ b _)).trans (handStuck_keeps _ b)

/-! ### The switching timer (R72, R80) -/

/-- The release's context at the start of UNLATCHING (R80). -/
def unlatching (w : SwapContext) : SwapContext := { w with phase := .unlatching, switchingTimer := none }

theorem unlatching_keeps {s : State} {w : SwapContext} (hw : s.swap = some w) (ht : w.switchingTimer.isSome = true) :
    Keeps [] s (s.putSwap (some (unlatching w))) := by
  refine putSwap_keeps hw rfl id fun c force ⟨hlatch, hforce, hswitching⟩ => ⟨fun hl => ⟨(hlatch hl).1, .inl rfl⟩,
    fun _ => hforce ?_, nofun⟩
  simp [hswitching ht]

/-- The latch of a release in UNLATCHING may be driven open. -/
theorem driveOpen_keeps {s : State} {w : SwapContext} (hw : s.swap = some w) (hphase : w.phase = .unlatching) :
    Keeps [] s (s.driveOpen w.bay) := by
  unfold State.driveOpen
  split
  swap
  · exact handOpenFailed_keeps s _
  refine (putBay_keeps_but s _ _).and (i := .latch) fun hs => latchAgrees_intro (fun x hx => ?_) fun v hv => ?_
  · have hne : x ≠ w.bay := fun h => hx w hw h.symm
    rw [State.bay_putBay_ne _ hne]
    exact rests_of_latchAgrees hs hx
  · obtain rfl : w = v := Option.some.inj (hw.symm.trans hv)
    obtain ⟨hstate, hpath, hseating, hjolt⟩ := releases_of_latchAgrees hs hw
    obtain ⟨-, hforce, hswitching⟩ := latchAllowed_of_latchAgrees hs hw
    rw [State.bay_putBay]
    exact ⟨⟨hstate, hpath, hseating, hjolt⟩, fun _ => ⟨hforce (by simp [hphase]), .inl hphase⟩, hforce, hswitching⟩

theorem unlatch_keeps {s : State} {w : SwapContext} (hw : s.swap = some w) (ht : w.switchingTimer.isSome = true) :
    Keeps [] s (s.unlatch w) :=
  (unlatching_keeps hw ht).trans (driveOpen_keeps (w := unlatching w) rfl rfl)

/-! ### Removals (R86, R87) -/

theorem vacate_bay (s : State) (b : Bay) : (s.vacate b).bay b = (s.bay b).vacated :=
  Eq.trans (reportGone_kept (s.putBay b (s.bay b).vacated) b (.bay b) (by simp)) (State.bay_putBay _ _ _)

theorem vacate_otherBay (s : State) (b : Bay) : (s.vacate b).bay (otherBay b) = s.bay (otherBay b) :=
  Eq.trans (reportGone_kept (s.putBay b (s.bay b).vacated) b (.bay (otherBay b)) (by simp))
    (State.bay_putBay_ne _ (otherBay_ne b) _)

theorem vacated_rests (c : BayContext) (now now' : Instant) :
    Rests (((c.vacated).drivenClosed now).drivenClosed now') := by
  have h : Rests (c.vacated.drivenClosed now) := rests_drivenClosed now (by simp [BayContext.vacated])
    (by simp [BayContext.vacated]) rfl rfl
  exact (drivenClosed_moves _ now').rests h

theorem vacated_rests_once (c : BayContext) (now : Instant) : Rests (c.vacated.drivenClosed now) :=
  rests_drivenClosed now (by simp [BayContext.vacated]) (by simp [BayContext.vacated]) rfl rfl

theorem releasingLoss_keeps {s : State} {b : Bay} {w : SwapContext} (hw : s.swapOf b = some w) :
    Keeps [] s (s.releasingLoss b w) := by
  obtain ⟨hswap, rfl⟩ := swapOf_some hw
  unfold State.releasingLoss
  split
  · have hpost : Kept [.noticeList, .news] (s.vacate w.bay)
        ((s.vacate w.bay).postRelatchLoss w.bay (s.serial w.bay) (s.bay w.bay).pathClosed) := by
      unfold State.postRelatchLoss State.postLost State.postRemoved
      split <;> exact post_kept _ _ _ _ _
    refine (((vacate_keeps_but s w.bay).trans (.of_kept hpost (by decide))).trans (endRelease_keeps_but _ w _ _)).and
      (i := .latch) fun hs => endRelease_latch _ _ ?_ ?_
    · rw [show State.bay _ w.bay = _ from hpost (.bay w.bay) (by simp), vacate_bay]
      exact vacated_rests_once _ _
    · rw [show State.bay _ (otherBay w.bay) = _ from hpost (.bay (otherBay w.bay)) (by simp), vacate_otherBay]
      exact rests_otherBay hs hswap
  · have hpost : Kept [.noticeList, .news] ((s.vacate w.bay).driveClose w.bay)
        (((s.vacate w.bay).driveClose w.bay).postRemoved w.bay (s.serial w.bay) (s.fallHeld w.bay)) :=
      post_kept _ _ _ _ _
    refine ((((vacate_keeps_but s w.bay).trans ((driveClose_keeps _ _).mono (by simp))).trans
      (.of_kept hpost (by decide))).trans (endRelease_keeps_but _ w _ _)).and
      (i := .latch) fun hs => endRelease_latch _ _ ?_ ?_
    · rw [show State.bay _ w.bay = _ from hpost (.bay w.bay) (by simp), State.driveClose, State.bay_putBay, vacate_bay]
      exact vacated_rests _ _ _
    · rw [show State.bay _ (otherBay w.bay) = _ from hpost (.bay (otherBay w.bay)) (by simp), State.driveClose,
        State.bay_putBay_ne _ (otherBay_ne w.bay), vacate_otherBay]
      exact rests_otherBay hs hswap

/-! ### Release requests (R76, R79, R88) -/

/-- A release that is granted: its bay is ONLINE with its latch CLOSED, the other bay is not RELEASING, and the bay's
LATCH kind is not in force (R76). -/
structure Grantable (s : State) (x : Bay) : Prop where
  online : (s.bay x).state = .online
  latch : (s.bay x).latch = .closed
  other : (s.bay (otherBay x)).state ≠ .releasing
  force : s.holds.inForce (.latch x) = false

theorem grantable_of_granted {s : State} {x : Bay} {c : Carrier} {need best : Nat}
    (h : s.releaseResult x = .granted c need best) : Grantable s x := by
  have hnone : s.releaseRefusal x = none := by
    unfold State.releaseResult at h
    split at h
    · simp at h
    · assumption
  unfold State.releaseRefusal at hnone
  split_ifs at hnone with h1 h2 h3 h4 h5
  exact ⟨not_not.1 h2, not_not.1 h3, h4, by simpa using h5⟩

theorem grant_keeps {s : State} {x : Bay} (h : Grantable s x) (requester : Requester) (c : Carrier) (need best : Nat) :
    Keeps [] s (s.grant x requester c need best) := by
  obtain ⟨honline, hlatch, hother, hforce⟩ := h
  refine Keeps.trans ?_ (holdAdd_keeps _ _ (by simp) (by simp))
  refine ((putSwap_keeps_but s _).trans (putBay_keeps_but _ x _)).and (i := .latch) fun hs => ?_
  have hrests : ∀ y, (s.bay y).state ≠ .releasing → Rests (s.bay y) := fun y hy =>
    rests_of_latchAgrees hs (unnamed_of_not_releasing hs hy)
  have hx := hrests x (by simp [honline])
  refine latchAgrees_intro (fun y hy => ?_) fun w hw => ?_
  · have hne : y ≠ x := fun he => hy (grantContext x requester c need best s.clock) rfl he.symm
    have hyo : y = otherBay x := by cases x <;> cases y <;> simp_all [otherBay]
    rw [State.bay_putBay_ne _ hne, hyo]
    exact hrests _ hother
  · obtain rfl : grantContext x requester c need best s.clock = w := Option.some.inj hw
    show Releases (State.bay _ x) _ ∧ LatchAllowed (State.bay _ x) _ _
    rw [State.bay_putBay]
    have hseating : (s.bay x).seatingTimer = none := by
      by_contra hn
      simp [hx.seating (Option.isSome_iff_ne_none.2 hn)] at honline
    have hjolt : (s.bay x).jolt = none := by
      by_contra hn
      simp [hx.jolt (Option.isSome_iff_ne_none.2 hn)] at honline
    exact ⟨⟨rfl, nofun, hseating, hjolt⟩, fun hl => absurd hl (by simp [hlatch, LatchState.isOpening]), fun _ => hforce,
      fun _ => rfl⟩

theorem buttonRequest_keeps (s : State) (b : Bay) : Keeps [] s (s.buttonRequest b) := by
  unfold State.buttonRequest
  split
  · exact post_keeps s _ _ _ _
  · exact grant_keeps (grantable_of_granted ‹_›) _ _ _ _

theorem slotRelease_keeps (s : State) (k : Nat) (x : Bay) : Keeps [] s (s.slotRelease k x) := by
  unfold State.slotRelease
  split
  · exact answer_keeps s _ _ _ _
  · obtain ⟨honline, hlatch, hother, hforce⟩ := grantable_of_granted ‹_›
    exact (accept_keeps s k).trans (grant_keeps (s := s.accept k) ⟨honline, hlatch, hother, hforce⟩ _ _ _ _)

theorem cancelRelease_keeps {s t : State} {w : SwapContext} (hw : s.swap = some w) (h : s.cancelRelease w = some t) :
    Keeps [] s t := by
  unfold State.cancelRelease at h
  split at h
  · obtain rfl := Option.some.inj h
    exact endOnline_keeps _ _ hw
  · obtain rfl := Option.some.inj h
    exact enterRelatching_keeps _ hw
  · obtain rfl := Option.some.inj h
    exact enterRelatching_keeps _ hw
  · simp at h

end Sys2Proof.Machine.TheHoldSet
end

section
/-! SUPPORT. How the bay controllers and the pack wire keep the invariants (R5 to R42). -/

namespace Sys2Proof.Machine.TheHoldSet

open Sys2Proof.Machine.PowerSources

/-! ### Changes of a bay context that leaves its pack's state -/

theorem setJolt_moves {c : BayContext} {j : Jolt} (hj : c.jolt = some j) (i : Jolt) : Moves c (c.setJolt i) :=
  .of_same ⟨rfl, rfl, rfl, by simp [BayContext.setJolt, hj]⟩ id

theorem setJolt_keeps {s : State} {b : Bay} {j : Jolt} (hj : (s.bay b).jolt = some j) (i : Jolt) :
    Keeps [] s (s.putBay b ((s.bay b).setJolt i)) := putBay_keeps fun _ => setJolt_moves hj i

theorem barred_moves {c d : BayContext} (hs : c.state = .reading ∨ c.state = .online) (hd : d.state = .barred)
    (hp : d.pathClosed = false) (hseating : d.seatingTimer = c.seatingTimer) (hjolt : d.jolt = c.jolt)
    (hl : d.latch = c.latch) : Moves c d := by
  refine .of_rests ?_ (fun hc hr => ⟨by simp [hd], by simp [hp], fun ht => ?_, fun hj => ?_, hl ▸ hc⟩) hl
  · rcases hs with h | h <;> simp [h]
  · rcases hs with h | h <;> simp [hr.seating (hseating ▸ ht)] at h
  · rcases hs with h | h <;> simp [hr.jolt (hjolt ▸ hj)] at h

theorem joltedAt_moves {c : BayContext} (h : c.state = .online) (now : Instant) : Moves c (c.joltedAt now) := by
  refine .of_rests (by simp [h]) (fun hc hr => ⟨by simp [BayContext.joltedAt],
    by simp [BayContext.joltedAt], fun ht => ?_, fun _ => rfl, hc⟩) rfl
  simp [hr.seating ht] at h

/-! ### Identification (R11, R15 to R18) -/

theorem identEnd_keeps (s : State) (b : Bay) (regions : List (List Byte)) (failed : Bool) :
    Keeps [] s (s.identEnd b regions failed) := by
  unfold State.identEnd
  refine .ite (fun hstate => ?_) fun _ => .refl [] s
  split
  · refine (enterOnline_keeps fun _ => ?_).trans (post_keeps _ _ _ _ _)
    refine onlined_moves (c := s.bay b) (by simp [hstate]) (by simp [hstate]) ?_ ?_ _ <;> rfl
  · refine (putBay_keeps fun _ => ?_).trans (post_keeps _ _ _ _ _)
    exact barred_moves (.inl hstate) rfl rfl rfl rfl rfl

theorem serialEnd_keeps (s : State) (b : Bay) (region0 : Option (List Byte)) : Keeps [] s (s.serialEnd b region0) := by
  unfold State.serialEnd
  refine .ite (fun hj => ?_) fun _ => .refl [] s
  have hstate : (s.bay b).state = .jolted := by
    simp only [BayContext.joltedIn, Bool.and_eq_true, decide_eq_true_eq] at hj
    exact hj.1
  refine .ite (fun _ => ?_) fun _ => ?_
  · refine ((enterOnline_keeps fun _ => ?_).trans (post_keeps _ _ _ _ _)).trans (joltOutcome_keeps _ b _)
    exact onlined_moves (by simp [hstate]) (by simp [hstate]) rfl rfl _
  · exact ((enterReading_keeps fun _ => by simp [hstate]).trans (post_keeps _ _ _ _ _)).trans (joltOutcome_keeps _ b _)

/-! ### Gauge polls and stamps (R21 to R24, R37) -/

theorem withdrawGauge_keeps (s : State) (b : Bay) : Keeps [] s (s.withdrawGauge b) := link_keeps s _

theorem faulted_keeps {s : State} {b : Bay} (h : (s.bay b).state = .online) :
    Keeps [] s (s.putBay b (s.bay b).faulted) := putBay_keeps fun _ => barred_moves (.inr h) rfl rfl rfl rfl rfl

theorem packFault_keeps {s : State} {b : Bay} (h : (s.bay b).state = .online) : Keeps [] s (s.packFault b) :=
  (((faulted_keeps h).trans (withdrawGauge_keeps _ b)).trans (post_keeps _ _ _ _ _)).trans
    (lossOf_keeps _ _)

theorem polled_keeps (s : State) (b : Bay) (g : Gauge) : Keeps [] s (s.putBay b ((s.bay b).polled g)) :=
  putBay_keeps fun _ => .of_same ⟨rfl, rfl, rfl, rfl⟩ id

theorem gaugeGood_keeps (s : State) (b : Bay) (g : Gauge) : Keeps [] s (s.gaugeGood b g) := by
  unfold State.gaugeGood
  refine .ite (fun _ => .ite (fun h => ?_) fun _ => polled_keeps s b g) fun _ => .refl [] s
  refine (polled_keeps s b g).trans (packFault_keeps ?_)
  rw [State.bay_putBay]
  exact h.1

theorem gaugeFailed_keeps (s : State) (b : Bay) : Keeps [] s (s.gaugeFailed b) := by
  unfold State.gaugeFailed
  exact .ite (fun _ => putBay_keeps fun _ => .of_same ⟨rfl, rfl, rfl, rfl⟩ id) fun _ => .refl [] s

theorem stampRound_keeps (s : State) (j : Job) (followOn : List StampItem) : Keeps [] s (s.stampRound j followOn) := by
  unfold State.stampRound
  exact .ite (fun _ => .refl [] s) fun _ => link_keeps s _

theorem stamped_keeps (s : State) (b : Bay) (v : StampValues) : Keeps [] s (s.putBay b ((s.bay b).stamped v)) :=
  putBay_keeps fun _ => .of_same ⟨rfl, rfl, rfl, rfl⟩ id

theorem stampEnd_keeps (s : State) (j : Job) (covered followOn : List StampItem) (v : StampValues)
    (data : Option (List Byte)) : Keeps [] s (s.stampEnd j covered followOn v data) := by
  unfold State.stampEnd
  refine .ite (fun _ => ?_) fun _ => ?_
  · exact ((stamped_keeps s j.bay v).trans (stampOutcomes_keeps _ _ _ _)).trans (stampRound_keeps _ j followOn)
  · exact (stampOutcomes_keeps s _ _ _).trans (stampRound_keeps _ j followOn)

/-! ### Ends of transactions (R28 to R31, R34, R39, R42) -/

theorem blockStore_keeps (s : State) (a : Nat) (bytes : List Byte) : Keeps [] s (s.blockStore a bytes) :=
  .quiet (blockStore_kept s a bytes)

theorem queryEnd_keeps (s : State) (t : Transaction) (slot acceptance region buffer : Nat) (o : LinkOutcome)
    (data : List Byte) : Keeps [] s (s.queryEnd t slot acceptance region buffer o data) := by
  unfold State.queryEnd
  refine .ite (fun _ => .refl [] s) fun _ => ?_
  split
  · exact (blockStore_keeps s _ _).trans (answerAccepted_keeps _ _ _ _ _ _)
  · exact answerAccepted_keeps s _ _ _ _ _

theorem regionRead_keeps (s : State) (j : Job) (regions : List (List Byte)) (data : Option (List Byte)) :
    Keeps [] s (s.regionRead j regions data) := by
  unfold State.regionRead
  split
  · exact .ite (fun _ => identEnd_keeps s _ _ _) fun _ => link_keeps s _
  · exact identEnd_keeps s _ _ _

theorem takeOutcome_keeps (s : State) (t : Transaction) (o : LinkOutcome) (data : Option (List Byte)) :
    Keeps [] s (s.takeOutcome t o data) := by
  unfold State.takeOutcome
  split
  · exact regionRead_keeps s _ _ _
  · exact serialEnd_keeps s _ _
  · split
    · exact gaugeGood_keeps s _ _
    · exact gaugeFailed_keeps s _
  · exact stampEnd_keeps s _ _ _ _ _
  · exact queryEnd_keeps s _ _ _ _ _ _ _

theorem endTransaction_keeps (s : State) (t : Transaction) (o : LinkOutcome) (data : Option (List Byte)) :
    Keeps [] s (s.endTransaction t o data) :=
  ((link_keeps s _).trans (takeOutcome_keeps _ t o data)).trans (arbitrate_keeps _)

theorem answerFailed_keeps (s : State) (t : Transaction) : Keeps [] s (s.answerFailed t) := by
  unfold State.answerFailed
  exact .ite (fun _ => link_keeps s _) fun _ => endTransaction_keeps s t _ _

theorem answerEnd_keeps (s : State) (t : Transaction) (bytes : List Byte) : Keeps [] s (s.answerEnd t bytes) := by
  unfold State.answerEnd
  exact .ite (fun _ => endTransaction_keeps s t _ _) fun _ => answerFailed_keeps s t

theorem linkResetEnd_keeps (s : State) : Keeps [] s s.linkResetEnd := by
  unfold State.linkResetEnd
  dsimp only
  refine Keeps.trans ?_ (arbitrate_keeps _)
  split
  · exact (link_keeps s _).trans (answerAccepted_keeps _ _ _ _ _ _)
  · exact link_keeps s _

/-! ### Contact (R5 to R12, R86, R87) -/

theorem setBayPins_keeps (s : State) (b : Bay) (p : BayPins) : Keeps [] s (s.setBayPins b p) :=
  (Keeps.of_kept (but := [.read]) (setBayPins_kept s b p) (by decide)).and (i := .read) (readAgrees_of_same rfl rfl)

theorem contactArrives_keeps (s : State) (b : Bay) : Keeps [] s (s.contactArrives b) := by
  unfold State.contactArrives
  split
  · rename_i hstate
    exact putBay_keeps fun _ => seated_moves (by simp [hstate]) _
  · exact setJolt_keeps ‹_› _
  · exact .refl [] s

theorem onlineLoss_keeps {s : State} {b : Bay} (h : (s.bay b).state = .online) : Keeps [] s (s.onlineLoss b) := by
  unfold State.onlineLoss
  refine .ite (fun _ => ?_) fun _ => ?_
  · exact ((putBay_keeps fun _ => joltedAt_moves h _).trans (reportGone_keeps _ b)).trans (lossOf_keeps _ _)
  · exact ((vacate_keeps fun _ => by simp [h]).trans (post_keeps _ _ _ _ _)).trans (lossOf_keeps _ _)

theorem joltLost_keeps {s : State} {b : Bay} (h : (s.bay b).state = .jolted) : Keeps [] s (s.joltLost b) :=
  ((putBay_keeps fun _ => vacated_moves (by simp [h])).trans (post_keeps _ _ _ _ _)).trans (joltOutcome_keeps _ b _)

theorem joltBack_keeps {s : State} {b : Bay} {j : Jolt} (h : (s.bay b).state = .jolted) (hj : (s.bay b).jolt = some j) :
    Keeps [] s (s.joltBack b j) := by
  unfold State.joltBack
  exact .ite (fun _ => joltLost_keeps h) fun _ => setJolt_keeps hj _

theorem joltedLoss_keeps {s : State} {b : Bay} {j : Jolt} (h : (s.bay b).state = .jolted) (hj : (s.bay b).jolt = some j) :
    Keeps [] s (s.joltedLoss b j) := by
  unfold State.joltedLoss
  split
  · exact .refl [] s
  · exact joltBack_keeps h hj
  · have hbay : (s.reportGone b).bay b = s.bay b := reportGone_kept s b (.bay b) (by simp)
    exact (reportGone_keeps s b).trans (joltBack_keeps (hbay ▸ h) (hbay ▸ hj))

theorem contactLeaves_keeps (s : State) (b : Bay) : Keeps [] s (s.contactLeaves b) := by
  unfold State.contactLeaves
  split
  · exact .refl [] s
  · rename_i hstate
    exact putBay_keeps fun _ => vacated_moves (by simp [hstate])
  · rename_i hstate
    exact (vacate_keeps fun _ => by simp [hstate]).trans (post_keeps _ _ _ _ _)
  · rename_i hstate
    exact (vacate_keeps fun _ => by simp [hstate]).trans (post_keeps _ _ _ _ _)
  · exact onlineLoss_keeps ‹_›
  · split
    · exact releasingLoss_keeps ‹_›
    · exact .refl [] s
  · split
    · exact joltedLoss_keeps ‹_› ‹_›
    · exact .refl [] s

/-! ### The timers of a bay (R5, R10, R12, R20) -/

theorem holdEnds_keeps {s : State} {b : Bay} {j : Jolt} (hj : (s.bay b).jolt = some j) : Keeps [] s (s.holdEnds b j) :=
  (setJolt_keeps hj _).trans (join_keeps _ b _)

theorem joltExpires_keeps {s : State} {b : Bay} {j : Jolt} (h : s.LatchAgrees → (s.bay b).state ≠ .releasing)
    (hj : (s.bay b).jolt = some j) : Keeps [] s (s.joltExpires b j) := by
  unfold State.joltExpires
  refine .ite (fun _ => ?_) fun _ => setJolt_keeps hj _
  exact ((putBay_keeps fun hs => vacated_moves (h hs)).trans (post_keeps _ _ _ _ _)).trans (joltOutcome_keeps _ b _)

theorem nextPoll_keeps (s : State) (b : Bay) (t : Instant) : Keeps [] s (s.nextPoll b t) :=
  setBay_keeps fun _ => .of_same ⟨rfl, rfl, rfl, rfl⟩ id

theorem takePress_keeps (s : State) (b : Bay) : Keeps [] s (s.takePress b) :=
  setBay_keeps fun _ => .of_same ⟨rfl, rfl, rfl, rfl⟩ id

theorem button_keeps (s : State) (b : Bay) (pressed : Bool) :
    Keeps [] s (s.setBay b ((s.bay b).button pressed s.clock)) :=
  setBay_keeps fun _ => .of_same ⟨rfl, rfl, rfl, rfl⟩ id

end Sys2Proof.Machine.TheHoldSet
end

section
/-! SUPPORT. How the drop monitor's work on its samples keeps the invariants: its own rule, the FALL entries with its
episode, and the bound of its window's peak (R131, R133 to R155). -/

namespace Sys2Proof.Machine.TheHoldSet

open Sys2Proof.Machine.PowerSources

/-! ### The monitor's own rule -/

/-- What the agreement on FALL entries says of the monitor alone. -/
structure FallRule (d : DropMonitor) : Prop where
  standing : d.state = .falling ∨ d.state = .impact ∨ d.state = .settling → d.episode.isSome = true ∧ d.guardTail = none
  tail : d.guardTail.isSome = true → d.episode.isSome = true
  settling : d.settling.isSome = true → d.state = .settling
  starting : d.starting.isSome = true → d.state = .starting
  due : d.sampleDue.isSome = true → d.state ≠ .starting

/-- The FALL entries stand exactly while an episode exists. -/
def FallHeld (s : State) : Prop :=
  (s.drop.episode.isSome = true → s.AllFall) ∧ (s.drop.episode = none → s.NoFall)

theorem fallAgrees_iff (s : State) : s.FallAgrees ↔ FallHeld s ∧ FallRule s.drop :=
  ⟨fun ⟨hall, hno, hstanding, htail, hsettling, hstarting, hdue⟩ =>
    ⟨⟨hall, hno⟩, ⟨hstanding, htail, hsettling, hstarting, hdue⟩⟩,
    fun ⟨⟨hall, hno⟩, ⟨hstanding, htail, hsettling, hstarting, hdue⟩⟩ =>
      ⟨hall, hno, hstanding, htail, hsettling, hstarting, hdue⟩⟩

theorem fallHeld_of_same {s t : State} (hentries : t.holds.entries = s.holds.entries)
    (hepisode : t.drop.episode.isSome = s.drop.episode.isSome) : FallHeld s → FallHeld t := by
  unfold FallHeld State.AllFall State.NoFall HoldSet.holds
  simp only [← Option.not_isSome_iff_eq_none, hentries, hepisode]
  exact id

/-- What the rule reads is the same in two monitors. -/
structure SameRule (d e : DropMonitor) : Prop where
  state : e.state = d.state
  episode : e.episode.isSome = d.episode.isSome
  guardTail : e.guardTail = d.guardTail
  settling : e.settling.isSome = d.settling.isSome
  starting : e.starting.isSome = d.starting.isSome
  due : e.sampleDue.isSome = d.sampleDue.isSome

theorem SameRule.refl (d : DropMonitor) : SameRule d d := ⟨rfl, rfl, rfl, rfl, rfl, rfl⟩

theorem SameRule.trans {d e f : DropMonitor} (h : SameRule d e) (h' : SameRule e f) : SameRule d f :=
  ⟨h'.state.trans h.state, h'.episode.trans h.episode, h'.guardTail.trans h.guardTail, h'.settling.trans h.settling,
    h'.starting.trans h.starting, h'.due.trans h.due⟩

theorem SameRule.rule {d e : DropMonitor} (h : SameRule d e) : FallRule d → FallRule e := by
  obtain ⟨hstate, hepisode, htail, hsettling, hstarting, hdue⟩ := h
  exact fun ⟨h1, h2, h3, h4, h5⟩ => ⟨by rwa [hstate, hepisode, htail], by rwa [hepisode, htail],
    by rwa [hsettling, hstate], by rwa [hstarting, hstate], by rwa [hdue, hstate]⟩

/-! ### The monitor replaced -/

theorem setDrop_keeps_but {s : State} {d : DropMonitor} (hw : WindowBound s.drop → WindowBound d) :
    Keeps [.fall] s (s.setDrop d) :=
  ((Keeps.of_kept (but := [.shaped, .fall]) (setDrop_kept s d) (by decide)).and (i := .shaped) fun h => by
    obtain ⟨hacceptance, hplaces, hholds, hwindow⟩ := (shaped_iff s).1 h
    exact (shaped_iff _).2 ⟨hacceptance, hplaces, hholds, hw hwindow⟩)

theorem setDrop_keeps {s : State} {d : DropMonitor} (hw : WindowBound s.drop → WindowBound d)
    (he : d.episode.isSome = s.drop.episode.isSome) (hr : FallRule s.drop → FallRule d) : Keeps [] s (s.setDrop d) :=
  (setDrop_keeps_but hw).and (i := .fall) fun h => by
    obtain ⟨hheld, hrule⟩ := (fallAgrees_iff s).1 h
    exact (fallAgrees_iff _).2 ⟨fallHeld_of_same (s := s) rfl he hheld, hr hrule⟩

theorem setDrop_keeps_of_same {s : State} {d : DropMonitor} (hw : WindowBound s.drop → WindowBound d)
    (h : SameRule s.drop d) : Keeps [] s (s.setDrop d) := setDrop_keeps hw h.episode h.rule

/-! ### Episodes begin and end (R143, R145, R146, R151, R153) -/

theorem beginEpisode_isSome (d : DropMonitor) : d.beginEpisode.episode.isSome = true := by
  unfold DropMonitor.beginEpisode
  cases d.episode <;> rfl

/-- A monitor with an episode, and its FALL entries. -/
theorem begun_fall {s : State} {d : DropMonitor} (he : d.episode.isSome = true) (hr : FallRule d) :
    ((s.setDrop d).addFallEntries).FallAgrees := by
  have hdrop : ((s.setDrop d).addFallEntries).drop = d := addFallEntries_drop _
  refine (fallAgrees_iff _).2 ⟨⟨fun _ => addFallEntries_allFall _, fun hn => ?_⟩, ?_⟩
  · rw [hdrop] at hn
    simp [hn] at he
  · rwa [hdrop]

theorem begun_keeps {s : State} {d : DropMonitor} (hw : WindowBound s.drop → WindowBound d)
    (he : d.episode.isSome = true) (hr : FallRule s.drop → FallRule d) : Keeps [] s ((s.setDrop d).addFallEntries) := by
  have h : Keeps [.fall] s ((s.setDrop d).addFallEntries) := (setDrop_keeps_but hw).trans (addFallEntries_keeps_but _)
  refine h.and (i := .fall) fun hs => ?_
  obtain ⟨-, hrule⟩ := (fallAgrees_iff s).1 hs
  exact begun_fall he (hr hrule)

theorem settlingEnd_holds (s : State) (l : List Nat) : (s.settlingEnd l).holds.entries = s.holds.entries :=
  settlingEnd_kept s l .holds (by simp)

theorem settlingEnd_drop (s : State) (l : List Nat) : (s.settlingEnd l).drop = s.drop :=
  settlingEnd_kept s l .drop (by simp)

theorem endEpisode_drop (s : State) : s.endEpisode.drop = { s.drop with episode := none } := by
  show { (s.removeFallEntries.settlingEnd s.drop.records).drop with episode := none } = _
  rw [settlingEnd_drop]
  rfl

theorem endEpisode_noFall (s : State) : s.endEpisode.NoFall := fun e he =>
  removeFallEntries_noFall s e (settlingEnd_holds s.removeFallEntries s.drop.records ▸ he)

theorem endEpisode_keeps_but (s : State) : Keeps [.fall] s s.endEpisode := by
  have h : Keeps [.fall] s (s.removeFallEntries.settlingEnd s.drop.records) :=
    (removeFallEntries_keeps_but s).trans ((settlingEnd_keeps _ _).mono (by simp))
  exact h.trans (setDrop_keeps_but fun h => h)

/-- An episode has ended: the agreement stands for a monitor without one. -/
theorem fallAgrees_of_ended {s : State} (he : s.drop.episode = none) (hno : s.NoFall) (hr : FallRule s.drop) :
    s.FallAgrees := (fallAgrees_iff s).2 ⟨⟨fun h => by simp [he] at h, fun _ => hno⟩, hr⟩

theorem enterQuiet_keeps_but (s : State) : Keeps [.fall] s s.enterQuiet := setDrop_keeps_but fun h => h

/-- The monitor in QUIET after an episode's end. -/
theorem quietEnd_rule {d : DropMonitor} (htail : d.guardTail = none) (hsettling : d.settling = none)
    (hstarting : d.starting = none) : FallRule { d with episode := none, state := .quiet, n := none, r := none } :=
  ⟨by simp, by simp [htail], by simp [hsettling], by simp [hstarting], by simp⟩

theorem endQuiet_fall {s : State} (htail : s.drop.guardTail = none) (hsettling : s.drop.settling = none)
    (hstarting : s.drop.starting = none) : s.endEpisode.enterQuiet.FallAgrees := by
  have hdrop : s.endEpisode.enterQuiet.drop = { s.drop with episode := none, state := .quiet, n := none, r := none } := by
    show { s.endEpisode.drop with state := .quiet, n := none, r := none } = _
    rw [endEpisode_drop]
  refine fallAgrees_of_ended (by rw [hdrop]) ?_ (hdrop ▸ quietEnd_rule htail hsettling hstarting)
  exact endEpisode_noFall s

theorem endQuiet_keeps_but (s : State) : Keeps [.fall] s s.endEpisode.enterQuiet :=
  (endEpisode_keeps_but s).trans (enterQuiet_keeps_but _)

/-- What the rule says of a monitor in a fall. -/
theorem FallRule.none_of_state {d : DropMonitor} (h : FallRule d) (hs : d.state ≠ .settling) : d.settling = none := by
  by_contra hn
  exact hs (h.settling (Option.isSome_iff_ne_none.2 hn))

theorem FallRule.not_starting {d : DropMonitor} (h : FallRule d) (hs : d.state ≠ .starting) : d.starting = none := by
  by_contra hn
  exact hs (h.starting (Option.isSome_iff_ne_none.2 hn))

/-! ### The window and its record (R146 to R148, R159, R160) -/

theorem clampInt_natAbs (x : Int) : (clampInt (-16000) 16000 x).natAbs ≤ 16000 := by
  unfold clampInt
  split
  · decide
  · split <;> omega

theorem accelSquared_clamped (a : Accel) : accelSquared (accelClamped a) ≤ 3 * 16000 ^ 2 := by
  have hx := clampInt_natAbs a.x
  have hy := clampInt_natAbs a.y
  have hz := clampInt_natAbs a.z
  have h1 := Nat.mul_le_mul hx hx
  have h2 := Nat.mul_le_mul hy hy
  have h3 := Nat.mul_le_mul hz hz
  unfold accelSquared accelClamped
  dsimp only
  omega

theorem fold_tame (w : ImpactWindow) (lost : Bool) : Tame (fun r => r.fold w lost) :=
  ⟨fun _ => rfl, fun _ => id, fun _ => id⟩

theorem bounce_tame (a : Accel) (fresh : Bool) : Tame (fun r => r.bounce a fresh) :=
  ⟨fun _ => rfl, fun _ => id, fun _ => id⟩

theorem foldImpact_keeps (s : State) (t : ImpactRecord) (w : ImpactWindow) (lost : Bool) :
    Keeps [] s (s.foldImpact t w lost) :=
  ((amend_keeps (fold_tame w lost) s t.sequence).trans (post_keeps _ _ _ _ _)).trans (setNews_keeps _ _)

theorem addRecord_same (d : DropMonitor) (q : Nat) : SameRule d (d.addRecord q) :=
  ⟨rfl, by unfold DropMonitor.addRecord; cases d.episode <;> rfl, rfl, rfl, rfl, rfl⟩

theorem openImpact_keeps {s : State} (w : ImpactWindow) (lost : Bool) (h : s.impact.openCount < 2) :
    Keeps [] s (s.openImpact w lost) := by
  have hopen : Keeps [] s (s.putImpact (s.impact.openRecord (s.windowRecord w lost))) :=
    putImpact_keeps (openRecord_length _ _) fun hs => limited_openRecord hs h rfl
  have hrecord : Keeps [] _ ((s.putImpact (s.impact.openRecord (s.windowRecord w lost))).setDrop
      (s.drop.addRecord s.impact.openSequence)) :=
    setDrop_keeps_of_same (fun h => h) (addRecord_same s.drop _)
  exact ((hopen.trans hrecord).trans (post_keeps _ _ _ _ _)).trans (setNews_keeps _ _)

theorem newestOf_ne_none {l : List ImpactRecord} (h : l ≠ []) : newestOf l ≠ none := by
  cases l with
  | nil => exact absurd rfl h
  | cons r rs =>
    unfold newestOf
    split
    · simp
    · split <;> simp

theorem openCount_of_no_target {u : ImpactStore} (h : u.foldTarget = none) : u.openCount < 2 := by
  unfold ImpactStore.foldTarget at h
  split at h
  · assumption
  · rename_i hn
    refine absurd h (newestOf_ne_none fun he => hn ?_)
    rw [ImpactStore.openCount, he]
    simp

/-- The state with the window of its monitor removed. -/
def windowGone (s : State) : State := s.setDrop { s.drop with window := none }

theorem windowGone_same (s : State) : SameRule s.drop (windowGone s).drop := ⟨rfl, rfl, rfl, rfl, rfl, rfl⟩

theorem windowGone_keeps (s : State) : Keeps [] s (windowGone s) :=
  setDrop_keeps_of_same (fun _ _ h => by simp at h) (windowGone_same s)

theorem recordImpact_eq (s : State) (w : ImpactWindow) (lost : Bool) : s.recordImpact w lost =
    match (windowGone s).impact.foldTarget with
    | some t => (windowGone s).foldImpact t w lost
    | none => (windowGone s).openImpact w lost := rfl

theorem recordImpact_keeps (s : State) (w : ImpactWindow) (lost : Bool) : Keeps [] s (s.recordImpact w lost) := by
  refine (windowGone_keeps s).trans ?_
  rw [recordImpact_eq]
  split
  · exact foldImpact_keeps _ _ w lost
  · exact openImpact_keeps w lost (openCount_of_no_target ‹_›)

theorem foldImpact_kept (s : State) (t : ImpactRecord) (w : ImpactWindow) (lost : Bool) :
    Kept [.impact, .noticeList, .news] s (s.foldImpact t w lost) :=
  (((amend_kept s t.sequence _).append (post_kept _ _ _ _ _)).append (setNews_kept _ _)).mono (by simp)

theorem openImpact_kept (s : State) (w : ImpactWindow) (lost : Bool) :
    Kept [.impact, .drop, .noticeList, .news] s (s.openImpact w lost) :=
  (((putImpact_kept s _).append (setDrop_kept _ _)).append ((post_kept _ _ _ _ _).append (setNews_kept _ _))).mono
    (by simp)

theorem openImpact_drop (s : State) (w : ImpactWindow) (lost : Bool) :
    (s.openImpact w lost).drop = s.drop.addRecord s.impact.openSequence :=
  ((post_kept ((s.putImpact (s.impact.openRecord (s.windowRecord w lost))).setDrop
    (s.drop.addRecord s.impact.openSequence)) _ _ _ _).append (setNews_kept _ _)) .drop (by simp)

/-- A record's opening or its fold leaves of the monitor what the rule reads. -/
theorem recordImpact_same (s : State) (w : ImpactWindow) (lost : Bool) :
    SameRule s.drop (s.recordImpact w lost).drop := by
  refine (windowGone_same s).trans ?_
  rw [recordImpact_eq]
  split
  · rw [show ((windowGone s).foldImpact _ w lost).drop = (windowGone s).drop from
      foldImpact_kept (windowGone s) _ w lost .drop (by simp)]
    exact .refl _
  · rw [openImpact_drop]
    exact addRecord_same _ _

theorem recordImpact_entries (s : State) (w : ImpactWindow) (lost : Bool) :
    (s.recordImpact w lost).holds.entries = s.holds.entries := by
  rw [recordImpact_eq]
  split
  · exact foldImpact_kept (windowGone s) _ w lost .holds (by simp)
  · exact openImpact_kept (windowGone s) w lost .holds (by simp)

theorem enterSettling_keeps {s : State} (target : Nat) (h : s.drop.state = .impact) :
    Keeps [] s (s.enterSettling target) :=
  setDrop_keeps (fun h => h) rfl fun hr => ⟨fun _ => hr.standing (.inr (.inl h)), hr.tail, fun _ => rfl,
    fun hs => by simp [hr.starting hs] at h, fun _ => nofun⟩

theorem windowTo_keeps {s : State} {w : ImpactWindow} (h : s.drop.state = .impact)
    (hw : WindowBound s.drop → w.peakM ≤ 3 * 16000 ^ 2) : Keeps [] s (s.windowTo w) := by
  unfold State.windowTo
  refine .ite (fun _ => ?_) fun _ => ?_
  · refine setDrop_keeps_of_same (fun hs v hv => ?_) ⟨rfl, rfl, rfl, rfl, rfl, rfl⟩
    obtain rfl : w = v := Option.some.inj hv
    exact hw hs
  · exact (recordImpact_keeps s w false).trans (enterSettling_keeps _ ((recordImpact_same s w false).state.trans h))

end Sys2Proof.Machine.TheHoldSet
end

section
/-! SUPPORT. How the drop monitor's samples, sensor losses and timers keep the invariants (R136, R140 to R155). -/

namespace Sys2Proof.Machine.TheHoldSet

open Sys2Proof.Machine.PowerSources

/-! ### Samples in QUIET, SUSPECT and FALLING (R141 to R146) -/

/-- The monitor on entry to a state of the fall. -/
theorem begun_rule {d : DropMonitor} (hd : FallRule d) {m : MonitorState} (hm : m = .falling ∨ m = .impact)
    (hs : d.state ≠ .settling) (hst : d.state ≠ .starting) (n r : Option Nat) (w : Option ImpactWindow) :
    FallRule { d.beginEpisode with state := m, n := n, r := r, window := w } := by
  have hsettling : d.beginEpisode.settling = none := hd.none_of_state hs
  have hstarting : d.beginEpisode.starting = none := hd.not_starting hst
  refine ⟨fun _ => ⟨beginEpisode_isSome d, rfl⟩, nofun, by simp [hsettling], by simp [hstarting], fun _ h => ?_⟩
  rw [show m = .starting from h] at hm
  simp at hm

theorem enterFalling_keeps {s : State} (n : Nat) (hs : s.drop.state = .suspect) : Keeps [] s (s.enterFalling n) := by
  have h : Keeps [] s
      ((s.setDrop { s.drop.beginEpisode with state := .falling, n := some n, r := some 0 }).addFallEntries) :=
    begun_keeps (fun h => h) (beginEpisode_isSome _) fun hd =>
      begun_rule hd (.inl rfl) (by simp [hs]) (by simp [hs]) _ _ s.drop.beginEpisode.window
  exact h.trans (post_keeps _ _ _ _ _)

theorem enterImpact_keeps {s : State} (kind : ImpactKind) (n : Nat) {a : Accel} (ha : accelSquared a ≤ 3 * 16000 ^ 2)
    (hs : s.drop.state ≠ .settling) (hst : s.drop.state ≠ .starting) : Keeps [] s (s.enterImpact kind n a) := by
  refine begun_keeps (fun _ w hw => ?_) (beginEpisode_isSome _) fun hd => begun_rule hd (.inr rfl) hs hst _ _ _
  obtain rfl : ImpactWindow.start kind n a s.uptime = w := Option.some.inj hw
  exact ha

/-- The monitor's state, n and r change, from and to states that the rule does not name. -/
theorem idle_keeps {s : State} {m : MonitorState} (hm : m = .quiet ∨ m = .suspect) (hs : s.drop.state ≠ .settling)
    (hst : s.drop.state ≠ .starting) (n r : Option Nat) :
    Keeps [] s (s.setDrop { s.drop with state := m, n := n, r := r }) :=
  setDrop_keeps (fun h => h) rfl fun hr => by
    have hsettling := hr.none_of_state hs
    have hstarting := hr.not_starting hst
    refine ⟨fun h => ?_, hr.tail, by simp [hsettling], by simp [hstarting], fun _ h => ?_⟩
    · rcases hm with rfl | rfl <;> simp at h
    · rcases hm with rfl | rfl <;> simp at h

/-- A change of n and r. -/
theorem counts_keeps (s : State) (n r : Option Nat) : Keeps [] s (s.setDrop { s.drop with n := n, r := r }) :=
  setDrop_keeps_of_same (fun h => h) ⟨rfl, rfl, rfl, rfl, rfl, rfl⟩

theorem quietSample_keeps {s : State} {a : Accel} (ha : accelSquared a ≤ 3 * 16000 ^ 2)
    (hs : s.drop.state ≠ .settling) (hst : s.drop.state ≠ .starting) : Keeps [] s (s.quietSample a) := by
  unfold State.quietSample
  refine .ite (fun _ => ?_) fun _ => .ite (fun _ => enterImpact_keeps _ _ ha hs hst) fun _ => ?_
  · exact idle_keeps (.inr rfl) hs hst _ s.drop.r
  · exact idle_keeps (.inl rfl) hs hst _ _

theorem suspectSample_keeps {s : State} (n : Nat) {a : Accel} (ha : accelSquared a ≤ 3 * 16000 ^ 2)
    (hs : s.drop.state = .suspect) : Keeps [] s (s.suspectSample n a) := by
  unfold State.suspectSample
  refine .ite (fun _ => .ite (fun _ => enterFalling_keeps _ hs) fun _ => ?_) fun _ => ?_
  · exact counts_keeps s _ s.drop.r
  · exact quietSample_keeps ha (by simp [hs]) (by simp [hs])

theorem caught_keeps {s : State} (n : Nat) (hs : s.drop.state = .falling) : Keeps [] s (s.caught n) := by
  have h : Keeps [] s s.endEpisode.enterQuiet := (endQuiet_keeps_but s).and (i := .fall) fun h => by
    obtain ⟨-, hr⟩ := (fallAgrees_iff s).1 h
    obtain ⟨-, htail⟩ := hr.standing (.inl hs)
    exact endQuiet_fall htail (hr.none_of_state (by simp [hs])) (hr.not_starting (by simp [hs]))
  exact h.trans (post_keeps _ _ _ _ _)

theorem fallingSample_keeps {s : State} (n r : Nat) {a : Accel} (ha : accelSquared a ≤ 3 * 16000 ^ 2)
    (hs : s.drop.state = .falling) : Keeps [] s (s.fallingSample n r a) := by
  unfold State.fallingSample
  refine .ite (fun _ => enterImpact_keeps _ _ ha (by simp [hs]) (by simp [hs])) fun _ => .ite (fun _ => ?_) fun _ => .ite
    (fun _ => caught_keeps _ hs) fun _ => ?_
  · exact counts_keeps s _ _
  · exact counts_keeps s _ _

/-! ### Samples in SETTLING (R149, R150) -/

/-- The settling data of a monitor that settles change. -/
theorem settling_same {d : DropMonitor} {g : Settling} (hg : d.settling = some g) (v : Settling) :
    SameRule d { d with settling := some v } := ⟨rfl, rfl, rfl, by rw [hg]; rfl, rfl, rfl⟩

theorem settling_keeps {s : State} {g : Settling} (hg : s.drop.settling = some g) (v : Settling) :
    Keeps [] s (s.setDrop { s.drop with settling := some v }) :=
  setDrop_keeps_of_same (fun h => h) (settling_same hg v)

theorem settlingHigh_keeps {s : State} {g : Settling} (hg : s.drop.settling = some g) (a : Accel) :
    Keeps [] s (s.settlingHigh g a) :=
  (amend_keeps (bounce_tame a _) s g.target).trans (settling_keeps (s := s.amend g.target _) hg _)

/-- The monitor that falls again after q low samples of SETTLING, its episode continued (R150). -/
def fallsAgain (d : DropMonitor) (q : Nat) : DropMonitor :=
  { d with
    state := .falling
    n := some q
    r := some 0
    settling := none
    episode := match d.episode with
      | some e => some { e with continued := true }
      | none => none }

theorem fallsAgain_episode (d : DropMonitor) (q : Nat) : (fallsAgain d q).episode.isSome = d.episode.isSome := by
  unfold fallsAgain
  cases d.episode <;> rfl

theorem fallsAgain_rule {d : DropMonitor} (hs : d.state = .settling) (q : Nat) (hr : FallRule d) :
    FallRule (fallsAgain d q) := by
  obtain ⟨hepisode, htail⟩ := hr.standing (.inr (.inr hs))
  refine ⟨fun _ => ⟨(fallsAgain_episode d q).trans hepisode, htail⟩, fun ht => ?_, nofun, fun ht => ?_, nofun⟩
  · exact absurd (show d.guardTail.isSome = true from ht) (by simp [htail])
  · simp [hr.starting ht] at hs

theorem fallAgain_keeps {s : State} (q : Nat) (hs : s.drop.state = .settling) : Keeps [] s (s.fallAgain q) := by
  have h : Keeps [] s (s.setDrop (fallsAgain s.drop q)) :=
    setDrop_keeps (fun h => h) (fallsAgain_episode s.drop q) (fallsAgain_rule hs q)
  exact h.trans (post_keeps _ _ _ _ _)

theorem settlingSample_keeps {s : State} {g : Settling} (hg : s.drop.settling = some g) (a : Accel)
    (hs : s.drop.state = .settling) : Keeps [] s (s.settlingSample g a) := by
  unfold State.settlingSample
  exact .ite (fun _ => settlingHigh_keeps hg a) fun _ => .ite
    (fun _ => .ite (fun _ => fallAgain_keeps _ hs) fun _ => settling_keeps hg _) fun _ => settling_keeps hg _

theorem settled_keeps {s : State} {g : Settling} (hg : s.drop.settling = some g) : Keeps [] s s.settled := by
  have hgone : Keeps [.fall] s (s.setDrop { s.drop with settling := none }) := setDrop_keeps_but fun h => h
  refine (hgone.trans (endQuiet_keeps_but _)).and (i := .fall) fun h => ?_
  obtain ⟨-, hr⟩ := (fallAgrees_iff s).1 h
  have hs : s.drop.state = .settling := hr.settling (by simp [hg])
  obtain ⟨-, htail⟩ := hr.standing (.inr (.inr hs))
  exact endQuiet_fall (s := s.setDrop { s.drop with settling := none }) htail rfl (hr.not_starting (by simp [hs]))

/-! ### Good samples (R135) -/

/-- The state with the missing count of its monitor replaced. -/
def withMissing (s : State) (n : Nat) : State := s.setDrop { s.drop with missing := n }

theorem withMissing_same (s : State) (n : Nat) : SameRule s.drop (withMissing s n).drop := ⟨rfl, rfl, rfl, rfl, rfl, rfl⟩

theorem withMissing_keeps (s : State) (n : Nat) : Keeps [] s (withMissing s n) :=
  setDrop_keeps_of_same (fun h => h) (withMissing_same s n)

/-- The window's peak after a sample is that of a clamped sample, as it was before. -/
theorem sample_peak {w : ImpactWindow} {a : Accel} (ha : accelSquared a ≤ 3 * 16000 ^ 2)
    (hw : w.peakM ≤ 3 * 16000 ^ 2) : (w.sample a).peakM ≤ 3 * 16000 ^ 2 := by
  show (if w.peakM < accelSquared a then accelSquared a else w.peakM) ≤ _
  split
  · exact ha
  · exact hw

/-- A good sample of a monitor whose missing count has been cleared, by the monitor state. -/
def judged (s : State) (a : Accel) : State :=
  match s.drop.state with
  | .quiet => s.quietSample a
  | .suspect => s.suspectSample (s.drop.n.getD 0) a
  | .falling => s.fallingSample (s.drop.n.getD 0) (s.drop.r.getD 0) a
  | .impact =>
    match s.drop.window with
    | some w => s.windowTo (w.sample a)
    | none => s
  | .settling =>
    match s.drop.settling with
    | some g => s.settlingSample g a
    | none => s
  | .starting => s
  | .offline => s

theorem goodSample_eq (s : State) (a : Accel) : s.goodSample a = judged (withMissing s 0) a := rfl

theorem judged_keeps {s : State} {a : Accel} (ha : accelSquared a ≤ 3 * 16000 ^ 2) : Keeps [] s (judged s a) := by
  unfold judged
  split
  · rename_i hs
    exact quietSample_keeps ha (by simp [hs]) (by simp [hs])
  · exact suspectSample_keeps _ ha ‹_›
  · exact fallingSample_keeps _ _ ha ‹_›
  · split
    · rename_i w hw
      exact windowTo_keeps ‹_› fun hb => sample_peak ha (hb w hw)
    · exact .refl [] s
  · split
    · exact settlingSample_keeps ‹_› a ‹_›
    · exact .refl [] s
  · exact .refl [] s
  · exact .refl [] s

theorem goodSample_keeps (s : State) (a : Accel) : Keeps [] s (s.goodSample (accelClamped a)) := by
  rw [goodSample_eq]
  exact (withMissing_keeps s 0).trans (judged_keeps (accelSquared_clamped a))

/-! ### Sensor losses (R152) -/

/-- What a lost sensor leaves of the rule, before the monitor is OFFLINE: a guard tail only with an episode, no settling
data of a fall, and the FALL entries as they were. -/
structure Lost (s t : State) : Prop where
  entries : t.holds.entries = s.holds.entries
  episode : t.drop.episode.isSome = s.drop.episode.isSome
  starting : t.drop.starting = s.drop.starting
  settling : t.drop.settling.isSome = true → s.drop.settling.isSome = true ∧ s.drop.state ≠ .settling
  guardTail : t.drop.guardTail.isSome = true → s.drop.guardTail.isSome = true ∨
    s.drop.state = .falling ∨ s.drop.state = .impact ∨ s.drop.state = .settling

theorem markLost_kept (s : State) (records : List Nat) : Kept [.impact] s (s.markLost records) := by
  unfold State.markLost
  induction records generalizing s with
  | nil => exact (Kept.refl s).mono (by simp)
  | cons q qs ih => exact (amend_kept s q _).trans (ih _)

theorem markLost_keeps (s : State) (records : List Nat) : Keeps [] s (s.markLost records) :=
  foldl_keeps (f := fun s q => s.amend q (fun r => { r with sensorLost := true }))
    (fun s q => amend_keeps (f := fun r => { r with sensorLost := true })
      ⟨fun _ => rfl, fun _ => id, fun _ => id⟩ s q) records s

theorem markLost_drop (s : State) (records : List Nat) : (s.markLost records).drop = s.drop :=
  markLost_kept s records .drop (by simp)

theorem markLost_entries (s : State) (records : List Nat) : (s.markLost records).holds.entries = s.holds.entries :=
  markLost_kept s records .holds (by simp)

theorem startGuardTail_keeps_but (s : State) : Keeps [.fall] s s.startGuardTail := setDrop_keeps_but fun h => h

/-- A fall that the lost sensor ends: its records are marked and the guard tail starts. -/
theorem lost_marked {s u : State} (hentries : u.holds.entries = s.holds.entries)
    (hepisode : u.drop.episode.isSome = s.drop.episode.isSome) (hstarting : u.drop.starting = s.drop.starting)
    (hsettling : u.drop.settling.isSome = true → s.drop.settling.isSome = true ∧ s.drop.state ≠ .settling)
    (hfall : s.drop.state = .falling ∨ s.drop.state = .impact ∨ s.drop.state = .settling) (records : List Nat) :
    Lost s (u.markLost records).startGuardTail := by
  have hdrop := markLost_drop u records
  refine ⟨(markLost_entries u records).trans hentries, ?_, ?_, ?_, fun _ => .inr hfall⟩
  · show (u.markLost records).drop.episode.isSome = _
    rwa [hdrop]
  · show (u.markLost records).drop.starting = _
    rwa [hdrop]
  · show (u.markLost records).drop.settling.isSome = true → _
    rwa [hdrop]

theorem marked_keeps_but {s u : State} (h : Keeps [] s u) (records : List Nat) :
    Keeps [.fall] s (u.markLost records).startGuardTail :=
  ((h.trans (markLost_keeps u records)).mono (by simp)).trans (startGuardTail_keeps_but _)

theorem recordImpact_starting (s : State) (w : ImpactWindow) (lost : Bool) :
    (s.recordImpact w lost).drop.starting = s.drop.starting := by
  rw [recordImpact_eq]
  split
  · rw [show ((windowGone s).foldImpact _ w lost).drop = (windowGone s).drop from
      foldImpact_kept (windowGone s) _ w lost .drop (by simp)]
    rfl
  · rw [openImpact_drop]
    rfl

theorem loseFall_lost (s : State) : Lost s s.loseFall := by
  unfold State.loseFall
  split
  · rename_i hs
    exact lost_marked (s := s) (u := s.setDrop { s.drop with n := none, r := none }) rfl rfl rfl
      (fun h => ⟨h, by simp [hs]⟩) (.inl hs) _
  · rename_i hs
    split
    · rename_i w hw
      have hsame := recordImpact_same s w true
      exact lost_marked (recordImpact_entries s w true) hsame.episode (recordImpact_starting s w true)
        (fun h => ⟨hsame.settling ▸ h, by simp [hs]⟩) (.inr (.inl hs)) _
    · exact lost_marked rfl rfl rfl (fun h => ⟨h, by simp [hs]⟩) (.inr (.inl hs)) _
  · rename_i hs
    split
    · exact lost_marked (s := s) (u := s.setDrop { s.drop with settling := none }) rfl rfl rfl nofun (.inr (.inr hs)) _
    · rename_i hg
      exact lost_marked rfl rfl rfl (fun h => by simp [hg] at h) (.inr (.inr hs)) _
  all_goals
    rename_i hs
    exact ⟨rfl, rfl, rfl, fun h => ⟨h, by simp [hs]⟩, .inl⟩

theorem loseFall_keeps_but (s : State) : Keeps [.fall] s s.loseFall := by
  unfold State.loseFall
  split
  · exact marked_keeps_but (counts_keeps s _ _) _
  · split
    · exact marked_keeps_but (recordImpact_keeps s _ _) _
    · exact marked_keeps_but (.refl [] s) _
  · split
    · have h : Keeps [.fall] s (s.setDrop { s.drop with settling := none }) := setDrop_keeps_but fun h => h
      exact (h.trans ((markLost_keeps _ _).mono (by simp))).trans (startGuardTail_keeps_but _)
    · exact marked_keeps_but (.refl [] s) _
  all_goals exact .refl _ s

/-- The monitor once OFFLINE (R152). -/
theorem offline_fall {s t : State} (h : Lost s t) (hst : s.drop.state ≠ .starting) (hs : s.FallAgrees) :
    (t.setDrop { t.drop with state := .offline, n := none, r := none, sampleDue := none }).FallAgrees := by
  obtain ⟨hheld, hr⟩ := (fallAgrees_iff s).1 hs
  obtain ⟨hentries, hepisode, hstarting, hsettling, htail⟩ := h
  refine (fallAgrees_iff _).2 ⟨fallHeld_of_same (s := s) hentries hepisode hheld, ⟨by simp, fun ht => ?_, fun ht => ?_,
    fun ht => ?_, nofun⟩⟩
  · refine hepisode.trans ?_
    rcases htail ht with ht | hfall
    · exact hr.tail ht
    · exact (hr.standing hfall).1
  · obtain ⟨hsome, hne⟩ := hsettling ht
    exact absurd (hr.settling hsome) hne
  · rw [show State.drop _ = _ from State.setDrop_drop _ _] at ht
    exact absurd (hr.starting (hstarting ▸ ht)) hst

theorem sensorLost_keeps {s : State} (hst : s.FallAgrees → s.drop.state ≠ .starting) : Keeps [] s s.sensorLost := by
  have h : Keeps [.fall] s
      (s.loseFall.setDrop { s.loseFall.drop with state := .offline, n := none, r := none, sampleDue := none }) :=
    (loseFall_keeps_but s).trans (setDrop_keeps_but fun h => h)
  exact (h.and (i := .fall) fun hs => offline_fall (loseFall_lost s) (hst hs) hs).trans (post_keeps _ _ _ _ _)

/-! ### Missing samples (R136) -/

theorem missEffect_keeps (s : State) : Keeps [] s s.missEffect := by
  unfold State.missEffect
  split
  · exact counts_keeps s _ s.drop.r
  · split
    · rename_i w hw
      exact windowTo_keeps (w := w.miss) ‹_› fun hb => hb w hw
    · exact .refl [] s
  all_goals exact .refl [] s

theorem missSample_keeps {s : State} (hst : s.FallAgrees → s.drop.state ≠ .starting) : Keeps [] s s.missSample :=
  (withMissing_keeps s _).trans (.ite
    (fun _ => sensorLost_keeps (s := withMissing s (s.drop.missing + 1)) fun h => by
      obtain ⟨hheld, hr⟩ := (fallAgrees_iff _).1 h
      exact hst ((fallAgrees_iff s).2 ⟨fallHeld_of_same (s := withMissing s (s.drop.missing + 1)) rfl rfl hheld,
        SameRule.rule (d := (withMissing s (s.drop.missing + 1)).drop) ⟨rfl, rfl, rfl, rfl, rfl, rfl⟩ hr⟩))
    fun _ => missEffect_keeps _)

/-! ### Commands of the monitor (R135, R140, R151, R153) -/

theorem atSample_keeps {s : State} {t : Instant} (h : s.drop.sampleDue = some t) : Keeps [] s (s.atSample t) :=
  (reach_keeps s t).trans (setDrop_keeps_of_same (s := s.reach t) (fun h => h) ⟨rfl, rfl, rfl, rfl, rfl, by
    show true = s.drop.sampleDue.isSome
    rw [h]
    rfl⟩)

theorem sample_keeps {s : State} (t : Instant) (reading : Option Accel) :
    Keeps [] (s.atSample t) ((s.atSample t).sample reading) := by
  cases reading with
  | some a => exact goodSample_keeps _ a
  | none => exact missSample_keeps fun h => ((fallAgrees_iff _).1 h).2.due rfl

theorem sampled_keeps {s : State} {t : Instant} (h : s.drop.sampleDue = some t) (reading : Option Accel) :
    Keeps [] s ((s.atSample t).sample reading) := (atSample_keeps h).trans (sample_keeps t reading)

theorem tailEnd_keeps {s : State} {t : Instant} (h : s.drop.guardTail = some t) :
    Keeps [] s ((s.reach t).setDrop { s.drop with guardTail := none }).endEpisode := by
  have hbut : Keeps [.fall] s ((s.reach t).setDrop { s.drop with guardTail := none }) :=
    ((reach_keeps s t).mono (by simp)).trans (setDrop_keeps_but (s := s.reach t) fun h => h)
  refine (hbut.trans (endEpisode_keeps_but _)).and (i := .fall) fun hs => ?_
  obtain ⟨-, hr⟩ := (fallAgrees_iff s).1 hs
  have hdrop := endEpisode_drop ((s.reach t).setDrop { s.drop with guardTail := none })
  refine fallAgrees_of_ended (by rw [hdrop]) (endEpisode_noFall _) ?_
  rw [hdrop]
  refine ⟨fun hf => ?_, nofun, hr.settling, hr.starting, hr.due⟩
  obtain ⟨-, htail⟩ := hr.standing hf
  simp [h] at htail

theorem started_keeps {s : State} {g : Starting} (h : s.drop.starting = some g) : Keeps [] s (s.started g) := by
  have hbegun : Keeps [] s (s.setDrop { s.drop with
      state := .quiet, missing := 0, starting := none, sampleDue := some (s.clock + 5) }) :=
    setDrop_keeps (fun h => h) rfl fun hr => by
      have hs : s.drop.state = .starting := hr.starting (by simp [h])
      exact ⟨by simp, hr.tail, fun hg => by simp [hr.settling hg] at hs, nofun, by simp⟩
  unfold State.started
  dsimp only
  split
  · exact hbegun.trans (answerAccepted_keeps _ _ _ _ _ _)
  · exact hbegun

end Sys2Proof.Machine.TheHoldSet
end

section
/-! SUPPORT. How the brightness unit, the power unit, the settings and the resets keep the invariants (R47 to R67,
R109 to R130, R168, R186, R198 to R201). -/

namespace Sys2Proof.Machine.TheHoldSet

open Sys2Proof.Machine.PowerSources

/-! ### The display and its platform state (R111, R121 to R124) -/

/-- The state with its brightness unit and its power unit replaced. -/
def withUnits (s : State) (u : BrightUnit) (p : PowerUnit) : State := { s with bright := u, power := p }

theorem withUnits_kept (s : State) (u : BrightUnit) (p : PowerUnit) :
    Kept [.bright, .power, .hibernate] s (withUnits s u p) := by
  intro q hq
  cases q <;> first | rfl | simp at hq

/-- A brightness unit that keeps its freeze, with the display that its setting and the platform state give. -/
theorem withUnits_keeps {s : State} {u : BrightUnit} {p : PowerUnit} (hf : u.frozen = s.bright.frozen)
    (hd : s.DisplayAgrees → u.display = (u.displaySetting && (p.platform == .run))) : Keeps [] s (withUnits s u p) :=
  ((Keeps.of_kept (but := [.shaped, .display]) (withUnits_kept s u p) (by decide)).and (i := .shaped) fun h => by
    obtain ⟨hacceptance, hplaces, hfrozen, hrest⟩ := h
    exact ⟨hacceptance, hplaces, hf.trans hfrozen, hrest⟩).and (i := .display) hd

/-- Units whose display, its setting and the platform state are as before. -/
theorem withUnits_keeps_of_same {s : State} {u : BrightUnit} {p : PowerUnit} (hf : u.frozen = s.bright.frozen)
    (hd : u.display = s.bright.display) (hs : u.displaySetting = s.bright.displaySetting)
    (hp : p.platform = s.power.platform) : Keeps [] s (withUnits s u p) :=
  withUnits_keeps hf fun h => by rwa [hd, hs, hp]

theorem power_keeps {s : State} {p : PowerUnit} (hp : p.platform = s.power.platform) : Keeps [] s { s with power := p } :=
  withUnits_keeps_of_same (u := s.bright) rfl rfl rfl hp

theorem bright_keeps {s : State} {u : BrightUnit} (hf : u.frozen = s.bright.frozen) (hd : u.display = s.bright.display)
    (hs : u.displaySetting = s.bright.displaySetting) : Keeps [] s { s with bright := u } :=
  withUnits_keeps_of_same (p := s.power) hf hd hs rfl

theorem displayed_display (u : BrightUnit) (on : Bool) (p : Platform) :
    (displayed u on p).display = ((displayed u on p).displaySetting && (p == .run)) ∧
      (displayed u on p).frozen = u.frozen := by
  unfold displayed
  split
  · rename_i h
    exact ⟨h.symm, rfl⟩
  · exact ⟨rfl, rfl⟩

theorem workDisplay_display (u : BrightUnit) (p : Platform) :
    (u.workDisplay p).display = ((u.workDisplay p).displaySetting && (p == .run)) ∧
      (u.workDisplay p).frozen = u.frozen := by
  have h : u.workDisplay p = displayed u u.displaySetting p := workDisplay_setting u u.displaySetting p
  rw [h]
  exact displayed_display u u.displaySetting p

theorem displayTo_keeps (s : State) (on : Bool) : Keeps [] s (s.displayTo on) :=
  withUnits_keeps (p := s.power) (workDisplay_display { s.bright with displaySetting := on } s.power.platform).2
    fun _ => (workDisplay_display { s.bright with displaySetting := on } s.power.platform).1

theorem platformTo_keeps (s : State) (p : Platform) : Keeps [] s (s.platformTo p) := by
  unfold State.platformTo
  refine .ite (fun _ => .refl [] s) fun _ => ?_
  have h : Keeps [] s (withUnits s (s.bright.workDisplay p) { s.power with platform := p }) :=
    withUnits_keeps (workDisplay_display s.bright p).2 fun _ => (workDisplay_display s.bright p).1
  exact h.trans (setNews_keeps _ _)

theorem brightStep_keeps (s : State) (front top : AmbientReading) (panel : PanelReading) :
    Keeps [] s (s.brightStep front top panel) := by
  have h : Keeps [] s { s with
      bright := { s.bright.step front top panel s.power.allowance with stepDue := s.bright.stepDue + 400 } } :=
    bright_keeps rfl rfl rfl
  unfold State.brightStep
  exact .ite (fun _ => h.trans (post_keeps _ _ _ _ _)) fun _ => h

/-! ### The power unit (R47 to R61, R67) -/

theorem setDcPin_keeps (s : State) (level : Bool) : Keeps [] s (s.setDcPin level) := by
  have hkept : Kept [.pins] s (s.setDcPin level) := by
    intro p hp
    cases p <;> first | rfl | simp at hp
  exact (Keeps.of_kept (but := [.read]) hkept (by decide)).and (i := .read) (readAgrees_of_same rfl rfl)

theorem dcArrives_keeps (s : State) (id : DcClass) : Keeps [] s (s.dcArrives id) :=
  (power_keeps rfl).trans (setNews_keeps { s with power := { s.power with debounce := none, dc := some id } } _)

/-- The power unit once DC is ABSENT (R49). -/
def dcAbsent (p : PowerUnit) : PowerUnit :=
  { p with debounce := none, dc := none, chargeBridge := 0, chargeA := 0, chargeB := 0 }

theorem dcLeaves_keeps (s : State) : Keeps [] s s.dcLeaves := by
  have h : Keeps [] s { s with power := dcAbsent s.power } := power_keeps rfl
  exact (h.trans (setNews_keeps _ _)).trans (lossOf_keeps _ _)

theorem allowanceEvent_same (u : BrightUnit) (before after : Nat) : (u.allowanceEvent before after).frozen = u.frozen ∧
    (u.allowanceEvent before after).display = u.display ∧
    (u.allowanceEvent before after).displaySetting = u.displaySetting := by
  unfold BrightUnit.allowanceEvent
  split <;> exact ⟨rfl, rfl, rfl⟩

theorem budgetStages_keeps (s : State) : Keeps [] s s.budgetStages := by
  obtain ⟨hf, hd, hs⟩ := allowanceEvent_same s.bright s.power.allowance
    (s.power.stages s.bright s.bayA s.bayB).allowance
  exact withUnits_keeps_of_same hf hd hs rfl

theorem bridgeTest_keeps (s : State) : Keeps [] s s.bridgeTest := by
  unfold State.bridgeTest
  exact .ite (fun _ => .refl [] s) fun _ => lossOf_keeps s _

theorem sourceNotice_keeps (s : State) (before : SupplyMode) (n : Nat) : Keeps [] s (s.sourceNotice before n) := by
  unfold State.sourceNotice
  exact .ite (fun _ => .refl [] s) fun _ => (post_keeps s _ _ _ _).trans (setNews_keeps _ _)

theorem budget_keeps (s : State) : Keeps [] s s.budget :=
  (((budgetStages_keeps s).trans (.quiet (bridgeWarnings_kept s s.budgetStages))).trans (bridgeTest_keeps _)).trans
    (sourceNotice_keeps _ _ _)

/-! ### The settings (R198 to R200) -/

theorem settings_kept (s : State) (u : SettingsStore) : Kept [.settings] s { s with settings := u } := by
  intro p hp
  cases p <;> first | rfl | simp at hp

theorem settings_keeps (s : State) (u : SettingsStore) : Keeps [] s { s with settings := u } := .quiet (settings_kept s u)

theorem swapWindow_keeps (s : State) (n : Nat) : Keeps [] s { s with swapWindow := n } := by
  have hkept : Kept [.swapWindow] s { s with swapWindow := n } := by
    intro p hp
    cases p <;> first | rfl | simp at hp
  exact .quiet hkept

/-- The brightness unit with the settings of a load. -/
def withCurve (u : BrightUnit) (v : Settings) : BrightUnit :=
  { u with curve := v.curve, mode := v.mode, offset := v.offset, manual := v.manual }

theorem charging_keeps (s : State) (b : Bay) (enable : Bool) (limit : Nat) :
    Keeps [] s (s.setBay b ((s.bay b).charging enable limit)) :=
  setBay_keeps fun _ => .of_same ⟨rfl, rfl, rfl, rfl⟩ id

theorem thresholds_keeps (s : State) (t : Thresholds) : Keeps [] s (s.setDrop { s.drop with thresholds := t }) :=
  setDrop_keeps_of_same (fun h => h) ⟨rfl, rfl, rfl, rfl, rfl, rfl⟩

theorem takeSettings_keeps (s : State) (v : Settings) : Keeps [] s (s.takeSettings v) := by
  have hbright : Keeps [] s { s with bright := withCurve s.bright v } := bright_keeps rfl rfl rfl
  have hdrop := hbright.trans (thresholds_keeps _ v.thresholds)
  have hwindow := hdrop.trans (swapWindow_keeps _ v.window)
  have ha := hwindow.trans (charging_keeps _ .a v.enableA v.limitA)
  exact ha.trans (charging_keeps _ .b v.enableB v.limitB)

theorem postLoad_keeps (s : State) (c : StoredSettings) : Keeps [] s (s.postLoad c) := by
  unfold State.postLoad
  split <;> exact post_keeps s _ _ _ _

theorem endLoad_keeps (s : State) : Keeps [] s s.endLoad :=
  (((takeSettings_keeps s _).trans (postLoad_keeps _ _)).trans (setNews_keeps _ _)).trans (settings_keeps _ _)

theorem beginSave_keeps (s : State) (k : Nat) : Keeps [] s (s.beginSave k) := settings_keeps s _

theorem endSave_keeps (s : State) (v : SaveInFlight) (failed : Option (Fin 4)) : Keeps [] s (s.endSave v failed) := by
  have h : Keeps [] s { s with
      settings := s.settings.saved v failed s.readBack, free := if failed.isSome then s.free + 1 else s.free } := by
    have hkept : Kept [.settings, .free] s { s with
        settings := s.settings.saved v failed s.readBack, free := if failed.isSome then s.free + 1 else s.free } := by
      intro p hp
      cases p <;> first | rfl | simp at hp
    exact .quiet hkept
  unfold State.endSave
  refine Keeps.trans ?_ (setNews_keeps _ _)
  split
  · exact h.trans (answerAccepted_keeps _ _ _ _ _ _)
  · exact h.trans (answerAccepted_keeps _ _ _ _ _ _)

/-! ### Start-up and the care reset (R186, R187, R201) -/

theorem startUp_keeps (s : State) (b : Bool) : Keeps [] s { s with port := { s.port with startUp := b } } := by
  have hkept : Kept [.startUp] s { s with port := { s.port with startUp := b } } := by
    intro p hp
    cases p <;> first | rfl | simp at hp
  exact .quiet hkept

theorem careReset_keeps (s : State) (b : Bool) : Keeps [] s { s with port := { s.port with careReset := b } } := by
  have hkept : Kept [.careReset] s { s with port := { s.port with careReset := b } } := by
    intro p hp
    cases p <;> first | rfl | simp at hp
  exact .quiet hkept

theorem endStartup_keeps (s : State) : Keeps [] s s.endStartup := (endLoad_keeps s).trans (startUp_keeps _ _)

theorem endCareReset_keeps (s : State) : Keeps [] s s.endCareReset :=
  ((endLoad_keeps s).trans (careReset_keeps _ _)).trans (blockStore_keeps _ _ _)

/-- The state at the start of a care reset, before the swap controller and the hold set take part (R186). -/
def resetBegun (s : State) : State :=
  { s with
    port := s.port.startReset
    notices := s.notices.careReset
    link := s.link.careReset
    drop := s.drop.careReset
    settings := s.settings.beginLoad }

theorem resetBegun_kept (s : State) :
    Kept [.careReset, .intake, .noticeList, .news, .mask, .link, .drop, .settings] s (resetBegun s) := by
  intro p hp
  cases p <;> first | rfl | simp at hp

theorem careReset_same (d : DropMonitor) : SameRule d d.careReset :=
  ⟨rfl, rfl, rfl, rfl, by unfold DropMonitor.careReset; cases d.starting <;> rfl, rfl⟩

theorem resetBegun_keeps (s : State) : Keeps [] s (resetBegun s) := by
  have h : Keeps [.shaped, .fall] s (resetBegun s) := .of_kept (resetBegun_kept s) (by decide)
  refine (h.and (i := .shaped) fun hs => hs).and (i := .fall) fun hs => ?_
  obtain ⟨hheld, hrule⟩ := (fallAgrees_iff s).1 hs
  exact (fallAgrees_iff _).2 ⟨fallHeld_of_same (s := s) rfl rfl hheld, (careReset_same s.drop).rule hrule⟩

/-- The release loses its slot (R92). -/
theorem slotForgotten_keeps (s : State) :
    Keeps [] s (s.putSwap (match s.swap with
      | some w => some w.careReset
      | none => none)) := by
  split
  · rename_i w hw
    exact putSwap_keeps hw rfl id fun _ _ ⟨hlatch, hforce, hswitching⟩ => ⟨hlatch, hforce, hswitching⟩
  · rename_i hw
    have hsame : s.putSwap none = s := by
      unfold State.putSwap
      rw [if_pos hw, ← hw]
    rw [hsame]
    exact .refl [] s

theorem startCareReset_keeps (s : State) : Keeps [] s s.startCareReset := by
  have h := (resetBegun_keeps s).trans ((slotForgotten_keeps (resetBegun s)).trans (removeSoftware_keeps _))
  exact h

/-! ### Power-on reset (R2, R46, R168) -/

theorem bayPowerOn_rests (p : BayPins) : Rests (bayPowerOn p) := by
  refine ⟨by simp [bayPowerOn, BayContext.powerOn], by simp [bayPowerOn, BayContext.powerOn],
    by simp [bayPowerOn, BayContext.powerOn], by simp [bayPowerOn, BayContext.powerOn], ?_⟩
  unfold bayPowerOn
  dsimp only
  split <;> rfl

theorem reset_storeLimits : State.reset.StoreLimits := by
  unfold State.StoreLimits
  decide

theorem reset_fallRule : FallRule State.reset.drop := ⟨by decide, by decide, by decide, by decide, by decide⟩

/-- Power-on reset meets every invariant. -/
theorem powerOn_meets (s : State) (pins : PinLevels) (i : Invariant) : Meets (s.powerOn pins) i := by
  cases i with
  | shaped =>
    refine (shaped_iff _).2 ⟨rfl, rfl, ⟨rfl, List.nodup_nil, nofun⟩, nofun⟩
  | store => exact storeLimits_congr (s := State.reset) rfl reset_storeLimits
  | fall =>
    refine (fallAgrees_iff _).2 ⟨⟨nofun, fun _ => nofun⟩, reset_fallRule⟩
  | latch =>
    refine latchAgrees_of_no_release rfl fun x => ?_
    cases x
    · exact bayPowerOn_rests pins.a
    · exact bayPowerOn_rests pins.b
  | display => exact rfl
  | read => exact nofun

theorem contactAtPowerOn_keeps (s : State) (b : Bay) : Keeps [] s (s.contactAtPowerOn b) := by
  unfold State.contactAtPowerOn
  exact .ite (fun _ => contactArrives_keeps s b) fun _ => .refl [] s

theorem dcAtPowerOn_keeps (s : State) : Keeps [] s s.dcAtPowerOn := by
  refine power_keeps ?_
  split <;> rfl

end Sys2Proof.Machine.TheHoldSet
end

section
/-! SUPPORT. How the care port keeps the invariants: READ word by word, writes and word operations, and the HOST_PRESENT
line (R169 to R178, R185, R192). -/

namespace Sys2Proof.Machine.TheHoldSet

/-! ### What the port answers (R170, R171, R185) -/

/-- An answer that is no READ in progress, or one with bytes left. -/
def Unfinished (a : PortAnswer) : Prop :=
  ∀ (status : PortStatus) (served : List Byte) (addr left : Nat), a = .reading status served addr left → 0 < left

theorem readAnswer_unfinished (status : PortStatus) (served : List Byte) (addr left : Nat) :
    Unfinished (readAnswer status served addr left) := by
  rintro st sv ad n h
  unfold readAnswer at h
  split at h
  · simp at h
  · obtain ⟨-, -, -, rfl⟩ := PortAnswer.reading.inj h
    omega

theorem nextWord_unfinished (s : State) {a : PortAnswer} (ha : Unfinished a) : Unfinished (a.nextWord s) := by
  unfold PortAnswer.nextWord
  split
  · exact readAnswer_unfinished _ _ _ _
  · exact ha

theorem nextWords_unfinished (s : State) (n : Nat) {a : PortAnswer} (ha : Unfinished a) :
    Unfinished (PortAnswer.nextWords s n a) := by
  induction n generalizing a with
  | zero => exact ha
  | succ n ih => exact ih (nextWord_unfinished s ha)

/-- The port's answer is replaced. -/
theorem answered_keeps {s t : State} {L : List Part} (h : Kept L s t) (hL : Clear [.read] L)
    (hr : s.ReadAgrees → t.ReadAgrees) : Keeps [] s t := (Keeps.of_kept h hL).and (i := .read) hr

theorem reply_keeps (s : State) {a : PortAnswer} (h : ∀ status served addr left, a ≠ .reading status served addr left) :
    Keeps [] s (s.reply a) :=
  answered_keeps (reply_kept s a) (by decide) fun _ status served addr left he =>
    absurd (Option.some.inj he) (h status served addr left)

theorem silent_keeps (s : State) : Keeps [] s s.silent :=
  answered_keeps (silent_kept s) (by decide) fun _ _ _ _ _ he => by cases he

/-- A READ with bytes left goes on while HOST_PRESENT is high. -/
theorem reading_keeps {s : State} {a : PortAnswer} (hp : s.pins.hostPresent = true) (ha : Unfinished a) :
    Keeps [] s (s.reply a) :=
  answered_keeps (reply_kept s a) (by decide) fun _ status served addr left he =>
    ⟨hp, ha status served addr left (Option.some.inj he)⟩

theorem draw_keeps (s : State) : Keeps [] s s.draw := by
  have hkept : Kept [.free] s s.draw := by
    intro p hp
    cases p <;> first | rfl | simp at hp
  exact .quiet hkept

theorem serve_readAgrees {s : State} (h : s.ReadAgrees) : s.serve.ReadAgrees := by
  unfold State.serve
  split
  · rename_i status served addr left he
    obtain ⟨hpins, hleft⟩ := h _ _ _ _ he
    refine fun st sv ad n hn => ⟨hpins, nextWords_unfinished s s.freeValue ?_ st sv ad n (Option.some.inj hn)⟩
    intro _ _ _ n hn
    obtain ⟨-, -, -, rfl⟩ := PortAnswer.reading.inj hn
    exact hleft
  · exact h

theorem serve_keeps (s : State) : Keeps [] s s.serve := answered_keeps (serve_kept s) (by decide) serve_readAgrees

theorem beginRead_keeps {s : State} (hp : s.pins.hostPresent = true) (status : PortStatus) (addr length : Nat) :
    Keeps [] s (s.beginRead status addr length) :=
  (reading_keeps hp (nextWord_unfinished s (readAnswer_unfinished _ _ _ _))).trans (serve_keeps _)

theorem misuse_keeps (s : State) : Keeps [] s s.misuse := setNews_keeps s _

theorem portRead_keeps {s : State} (hp : s.pins.hostPresent = true) (addr length : Nat) :
    Keeps [] s (s.portRead addr length) := by
  unfold State.portRead
  exact .ite (fun _ => beginRead_keeps hp _ _ _) fun _ => .ite
    (fun _ => (misuse_keeps s).trans (reply_keeps _ nofun)) fun _ => .ite (fun _ => reply_keeps s nofun)
    fun _ => beginRead_keeps hp _ _ _

/-! ### HOST_PRESENT (R185) -/

theorem raiseHost_keeps (s : State) : Keeps [] s (s.setHostPresent true) :=
  answered_keeps (setHostPresent_kept s true) (by decide) fun h status served addr left he =>
    ⟨rfl, (h status served addr left he).2⟩

/-- A READ in progress goes when the line falls. -/
theorem lineFallen_ne_reading (a : Option PortAnswer) (status : PortStatus) (served : List Byte) (addr left : Nat) :
    a.bind PortAnswer.lineFallen ≠ some (.reading status served addr left) := by
  cases a with
  | none => simp
  | some a => cases a <;> simp [PortAnswer.lineFallen]

theorem lowerHost_keeps (s : State) : Keeps [] s (s.setHostPresent false).endFrame :=
  answered_keeps ((setHostPresent_kept s false).append (endFrame_kept _)) (by decide) fun _ status served addr left he =>
    absurd he (lineFallen_ne_reading _ status served addr left)

/-! ### Performed writes (R169, R172, R178, R192) -/

theorem store_keeps (s : State) (addr : Nat) (bytes : List Byte) : Keeps [] s (s.store addr bytes) :=
  .quiet (store_kept s addr bytes)

theorem storeGiven_keeps (s : State) (addr : Nat) (given : List (Option Byte)) :
    Keeps [] s (s.storeGiven addr given) := by
  induction given generalizing s addr with
  | nil => exact .refl [] s
  | cons g gs ih =>
    cases g with
    | none => exact ih s _
    | some b => exact (store_keeps s addr [b]).trans (ih _ _)

theorem notices_kept (s : State) (u : NoticeUnit) :
    Kept [.noticeList, .news, .mask, .attention] s { s with notices := u } := by
  intro p hp
  cases p <;> first | rfl | simp at hp

theorem notices_keeps (s : State) (u : NoticeUnit) : Keeps [] s { s with notices := u } := .quiet (notices_kept s u)

theorem flushDeferred_keeps (s : State) (n : Nat) : Keeps [] s (s.flushDeferred n) := by
  induction n generalizing s with
  | zero => exact .refl [] s
  | succ n ih =>
    unfold State.flushDeferred
    split
    · exact .refl [] s
    · rename_i d ds _
      have h := (notices_keeps s { s.notices with deferred := ds }).trans
        (.quiet (appendNotice_kept { s with notices := { s.notices with deferred := ds } } { d with deferred := true }))
      exact .ite (fun _ => h.trans (ih _)) fun _ => .refl [] s

theorem readIndex_keeps (s : State) (newTop : Nat) : Keeps [] s (s.readIndex newTop) := by
  unfold State.readIndex
  exact .ite (fun _ => notices_keeps s _) fun _ => (notices_keeps s _).trans (flushDeferred_keeps _ _)

theorem clearNews_keeps (s : State) (bits : Byte) : Keeps [] s (s.clearNews bits) := .quiet (clearNews_kept s bits)

theorem performHeader_keeps (s : State) (p : WordPart) (value : Nat) : Keeps [] s (s.performHeader p value) := by
  unfold State.performHeader
  exact .ite (fun _ => clearNews_keeps s _) fun _ => .ite (fun _ => notices_keeps s _) fun _ => .ite
    (fun _ => setNews_keeps s _) fun _ => .ite (fun _ => readIndex_keeps s _) fun _ => .refl [] s

theorem performPart_keeps (s : State) (p : WordPart) : Keeps [] s (s.performPart p) := by
  unfold State.performPart
  exact .ite (fun _ => performHeader_keeps s p _) fun _ => .ite (fun _ => storeGiven_keeps s _ _) fun _ => .refl [] s

theorem intake_kept (s : State) (l : List Nat) : Kept [.intake] s { s with port := { s.port with intake := l } } := by
  intro p hp
  cases p <;> first | rfl | simp at hp

theorem intake_keeps (s : State) (l : List Nat) : Keeps [] s { s with port := { s.port with intake := l } } :=
  .quiet (intake_kept s l)

theorem setOwner_keeps (s : State) (k o : Nat) : Keeps [] s (s.setOwner k o) := .quiet (setOwner_kept s k o)

theorem arrive_keeps (s : State) (k : Nat) : Keeps [] s (s.arrive k) :=
  ((store_keeps s _ _).trans (setOwner_keeps _ _ _)).trans (intake_keeps _ _)

theorem performOwner_keeps (s : State) (p : WordPart) : Keeps [] s (s.performOwner p) := by
  unfold State.performOwner State.moveOwner
  exact .ite (fun _ => .ite (fun _ => arrive_keeps s _) fun _ => .ite (fun _ => setOwner_keeps s _ _) fun _ => .refl [] s)
    fun _ => .refl [] s

theorem perform_keeps (s : State) (parts : List WordPart) : Keeps [] s (s.perform parts) := by
  have h := (foldl_keeps performPart_keeps parts s).trans (foldl_keeps performOwner_keeps parts _)
  unfold State.perform
  exact .ite (fun _ => h.trans (startCareReset_keeps _)) fun _ => h

/-! ### Writes and word operations (R172 to R174, R202) -/

theorem portWrite_keeps (s : State) (addr : Nat) (data : List Byte) : Keeps [] s (s.portWrite addr data) := by
  unfold State.portWrite
  exact .ite (fun _ => reply_keeps s nofun) fun _ => .ite (fun _ => (misuse_keeps s).trans (reply_keeps _ nofun))
    fun _ => .ite (fun _ => reply_keeps s nofun) fun _ => .ite
    (fun _ => (perform_keeps s _).trans (reply_keeps _ nofun)) fun _ => (misuse_keeps s).trans (reply_keeps _ nofun)

theorem refuseWord_keeps (s : State) (n : Nat) : Keeps [] s (s.refuseWord n) :=
  (misuse_keeps s).trans (reply_keeps _ nofun)

theorem okWord_keeps (s : State) (n : Nat) (flag : Bool) : Keeps [] s (s.okWord n flag) := reply_keeps s nofun

theorem storeWord_keeps (s : State) (addr value original : Nat) (flag : Bool) :
    Keeps [] s (s.storeWord addr value original flag) := by
  unfold State.storeWord
  exact .ite (fun _ => (perform_keeps s _).trans (okWord_keeps _ _ _)) fun _ => refuseWord_keeps s _

theorem wordOperation_keeps {s work : State} (h : Keeps [] s work) (addr : Nat) :
    Keeps [] s (s.wordOperation addr work) := by
  unfold State.wordOperation
  exact .ite (fun _ => (draw_keeps s).trans (reply_keeps _ nofun)) fun _ => .ite (fun _ => reply_keeps s nofun) fun _ =>
    .ite (fun _ => refuseWord_keeps s _) fun _ => h

theorem portExchange_keeps (s : State) (addr compare new : Nat) : Keeps [] s (s.portExchange addr compare new) :=
  wordOperation_keeps (.ite (fun _ => refuseWord_keeps s _) fun _ => .ite (fun _ => okWord_keeps s _ _) fun _ =>
    storeWord_keeps s _ _ _ _) addr

theorem portSetBits_keeps (s : State) (addr mask : Nat) : Keeps [] s (s.portSetBits addr mask) :=
  wordOperation_keeps (.ite (fun _ => (clearNews_keeps s _).trans (okWord_keeps _ _ _)) fun _ => .ite
    (fun _ => (setNews_keeps s _).trans (okWord_keeps _ _ _)) fun _ => .ite (fun _ => refuseWord_keeps s _) fun _ =>
    storeWord_keeps s _ _ _ _) addr

theorem portClearBits_keeps (s : State) (addr mask : Nat) : Keeps [] s (s.portClearBits addr mask) :=
  wordOperation_keeps (.ite (fun _ => refuseWord_keeps s _) fun _ => storeWord_keeps s _ _ _ _) addr

theorem portUnknown_keeps (s : State) : Keeps [] s s.portUnknown := by
  unfold State.portUnknown
  exact .ite (fun _ => reply_keeps s nofun) fun _ => (misuse_keeps s).trans (reply_keeps _ nofun)

theorem frame_keeps {s t : State} (h : Keeps [] s t) : Keeps [] s (s.frame t) := .ite (fun _ => h) fun _ => silent_keeps s

theorem hostWord_keeps (s : State) (addr value : Nat) (via : Via) : Keeps [] s (s.hostWord addr value via) := by
  refine frame_keeps ?_
  cases via with
  | write => exact portWrite_keeps s _ _
  | exchange compare => exact portExchange_keeps s _ _ _
  | setBits => exact portSetBits_keeps s _ _
  | clearBits => exact portClearBits_keeps s _ _

end Sys2Proof.Machine.TheHoldSet
end

section
/-! SUPPORT. How the work of each kind of request keeps the invariants (R25, R26, R38, R62, R76, R93, R98, R99, R122,
R126, R127, R134, R154, R164 to R166, R180 to R184, R199). -/

namespace Sys2Proof.Machine.TheHoldSet

open Sys2Proof.Machine.PowerSources

/-! ### Taking an entry (R180) -/

theorem popIntake_keeps (s : State) : Keeps [] s s.popIntake := .quiet (popIntake_kept s)

theorem refuse_keeps (s : State) (k : Nat) (r : Reason) (data : List Byte) : Keeps [] s (s.refuse k r data) :=
  answer_keeps s k _ _ _

theorem done_keeps (s : State) (k : Nat) (data : List Byte) : Keeps [] s (s.done k data) := answer_keeps s k _ _ _

/-- A request keeps the invariants if the work of its kind does. -/
theorem take_keeps (s : State) (kind : Nat) {work : State → Nat → State} (h : ∀ s k, Keeps [] s (work s k)) :
    Keeps [] s (s.take kind work) := by
  unfold State.take
  split
  · exact .ite (fun _ => .ite (fun _ => (popIntake_keeps s).trans (refuse_keeps _ _ _ _)) fun _ =>
      (popIntake_keeps s).trans (h _ _)) fun _ => .refl [] s
  · exact .refl [] s

theorem takeUnknown_keeps (s : State) : Keeps [] s s.takeUnknown := by
  unfold State.takeUnknown
  split
  · exact .ite (fun _ => (popIntake_keeps s).trans (refuse_keeps _ _ _ _)) fun _ => .ite
      (fun _ => (popIntake_keeps s).trans (refuse_keeps _ _ _ _)) fun _ => .refl [] s
  · exact .refl [] s

/-! ### BAY_RELEASE and CANCEL (R40, R76, R88, R183) -/

theorem workBayRelease_keeps (s : State) (k : Nat) : Keeps [] s (workBayRelease s k) := by
  unfold workBayRelease
  split
  · exact slotRelease_keeps s k _
  · exact refuse_keeps s _ _ _

/-- A CANCEL that its target's owner takes keeps the invariants, and so does one that is too late. -/
theorem cancelOwned_keeps {s : State} {taken : Option State} (h : ∀ t, taken = some t → Keeps [] s t) (k : Nat)
    (data : List Byte) : Keeps [] s (s.cancelOwned k data taken) := by
  unfold State.cancelOwned
  split
  · exact (h _ rfl).trans (done_keeps _ _ _)
  · exact refuse_keeps s _ _ _

theorem cancelBySwap_keeps {s t : State} {k : Nat} (h : s.cancelBySwap k = some t) : Keeps [] s t := by
  unfold State.cancelBySwap at h
  split at h
  · rename_i w hw
    unfold State.releaseBySlot at hw
    split at hw
    · rename_i v hv
      split at hw
      · obtain rfl := Option.some.inj hw
        exact cancelRelease_keeps hv h
      · simp at hw
    · simp at hw
  · simp at h

theorem cancelByLink_keeps {s t : State} {k : Nat} (h : s.cancelByLink k = some t) : Keeps [] s t := by
  unfold State.cancelByLink at h
  split at h
  · obtain rfl := Option.some.inj h
    exact ((draw_keeps s).trans (link_keeps _ _)).trans (answer_keeps _ _ _ _ _)
  · simp at h

theorem cancelTarget_keeps (s : State) (k t tag : Nat) : Keeps [] s (s.cancelTarget k t tag) := by
  unfold State.cancelTarget State.cancelWaiting State.cancelAccepted
  refine .ite (fun _ => refuse_keeps s _ _ _) fun _ => .ite (fun _ => refuse_keeps s _ _ _) fun _ => .ite
    (fun _ => .ite (fun _ => ?_) fun _ => refuse_keeps s _ _ _) fun _ => .ite
      (fun _ => cancelOwned_keeps (fun _ => cancelBySwap_keeps) _ _) fun _ => .ite
        (fun _ => cancelOwned_keeps (fun _ => cancelByLink_keeps) _ _) fun _ => refuse_keeps s _ _ _
  exact ((intake_keeps s _).trans (answer_keeps _ _ _ _ _)).trans (done_keeps _ _ _)

theorem workCancel_keeps (s : State) (k : Nat) : Keeps [] s (workCancel s k) := by
  unfold workCancel
  exact .ite (fun _ => (draw_keeps s).trans (refuse_keeps _ _ _ _)) fun _ => .ite (fun _ => refuse_keeps s _ _ _)
    fun _ => cancelTarget_keeps s _ _ _

/-! ### PACK_QUERY, BAY_RECHECK, SET_CHARGE (R25, R26, R38) -/

theorem workPackQuery_keeps (s : State) (k : Nat) : Keeps [] s (workPackQuery s k) := by
  unfold workPackQuery State.packQuery
  split
  · refine .ite (fun _ => refuse_keeps s _ _ _) fun _ => ?_
    split
    · exact refuse_keeps s _ _ _
    · exact (accept_keeps s k).trans (join_keeps _ _ _)
  · exact refuse_keeps s _ _ _

theorem recheck_keeps (s : State) (k : Nat) (b : Bay) : Keeps [] s (s.recheck k b) := by
  unfold State.recheck
  refine .ite (fun hstate => ?_) fun _ => refuse_keeps s _ _ _
  exact ((enterReading_keeps fun _ => by simp [hstate]).trans (withdrawStamp_keeps _ b)).trans (done_keeps _ _ _)

theorem workBayRecheck_keeps (s : State) (k : Nat) : Keeps [] s (workBayRecheck s k) := by
  unfold workBayRecheck
  split
  · exact recheck_keeps s k _
  · exact refuse_keeps s _ _ _

theorem workSetCharge_keeps (s : State) (k : Nat) : Keeps [] s (workSetCharge s k) := by
  unfold workSetCharge
  split
  · exact .ite (fun _ => refuse_keeps s _ _ _) fun _ => (charging_keeps s _ _ _).trans (done_keeps _ _ _)
  · exact refuse_keeps s _ _ _

/-! ### SET_CURVE, SET_BRIGHTNESS, SET_DISPLAY, SET_DROP, SET_SWAP (R93, R122, R126, R127, R134) -/

theorem workSetCurve_keeps (s : State) (k : Nat) : Keeps [] s (workSetCurve s k) := by
  unfold workSetCurve State.setCurve
  refine .ite (fun _ => refuse_keeps s _ _ _) fun _ => ?_
  split
  · exact refuse_keeps s _ _ _
  · exact refuse_keeps s _ _ _
  · rename_i points _ _
    have h : Keeps [] s { s with bright := { s.bright with curve := points } } := bright_keeps rfl rfl rfl
    exact h.trans (done_keeps _ _ _)

/-- The brightness unit after a SET_BRIGHTNESS (R126). -/
def withMode (u : BrightUnit) (mode : BrightMode) (offset : Int) (manual : Nat) : BrightUnit :=
  { u with mode := mode, offset := offset, manual := manual }

theorem setBrightness_keeps (s : State) (k : Nat) (mode : BrightMode) (offset : Int) (manual : Nat) :
    Keeps [] s (s.setBrightness k mode offset manual) := by
  have h : Keeps [] s { s with bright := withMode s.bright mode (clampOffset offset) (clampManual manual) } :=
    bright_keeps rfl rfl rfl
  exact h.trans (done_keeps _ _ _)

theorem workSetBrightness_keeps (s : State) (k : Nat) : Keeps [] s (workSetBrightness s k) := by
  unfold workSetBrightness
  split
  · exact setBrightness_keeps s _ _ _ _
  · exact refuse_keeps s _ _ _

theorem workSetDisplay_keeps (s : State) (k : Nat) : Keeps [] s (workSetDisplay s k) := by
  unfold workSetDisplay
  exact .ite (fun _ => refuse_keeps s _ _ _) fun _ => (displayTo_keeps s _).trans (done_keeps _ _ _)

theorem workSetDrop_keeps (s : State) (k : Nat) : Keeps [] s (workSetDrop s k) :=
  (thresholds_keeps s (s.dropParams k).clamped).trans (done_keeps _ _ _)

theorem workSetSwap_keeps (s : State) (k : Nat) : Keeps [] s (workSetSwap s k) :=
  (swapWindow_keeps s _).trans (done_keeps _ _ _)

/-! ### HOLD and UNHOLD (R98, R99) -/

theorem softwareKind_ne_storage {code : Nat} {kind : HoldKind} (h : softwareKind code = some kind) : kind ≠ .storage := by
  unfold softwareKind at h
  split at h
  · simp at h
  · rename_i hn
    rintro rfl
    exact hn h

theorem workHold_keeps (s : State) (k : Nat) : Keeps [] s (workHold s k) := by
  unfold workHold
  split
  · exact (holdSoftware_keeps s (softwareKind_ne_storage ‹_›) _).trans (done_keeps _ _ _)
  · exact refuse_keeps s _ _ _

theorem workUnhold_keeps (s : State) (k : Nat) : Keeps [] s (workUnhold s k) := by
  unfold workUnhold
  split
  · exact (holdRemove_keeps s _ (by simp)).trans (done_keeps _ _ _)
  · exact refuse_keeps s _ _ _

/-! ### PIN_IMPACT, UNPIN_IMPACT, CLEAR_IMPACTS (R164 to R166) -/

theorem workPinImpact_keeps (s : State) (k : Nat) : Keeps [] s (workPinImpact s k) := by
  unfold workPinImpact
  split
  · exact refuse_keeps s _ _ _
  · refine .ite (fun _ => done_keeps s _ _) fun _ => .ite (fun _ => refuse_keeps s _ _ _) fun hp => ?_
    exact (putImpact_keeps (update_length _ _ _) fun h => limited_pin h (by omega) _).trans (done_keeps _ _ _)

theorem workUnpinImpact_keeps (s : State) (k : Nat) : Keeps [] s (workUnpinImpact s k) := by
  unfold workUnpinImpact
  split
  · exact refuse_keeps s _ _ _
  · exact (putImpact_keeps (update_length _ _ _) fun h => limited_unpin h _).trans (done_keeps _ _ _)

theorem workClearImpacts_keeps (s : State) (k : Nat) : Keeps [] s (workClearImpacts s k) :=
  (putImpact_keeps (by simp [ImpactStore.cleared, clearedPlaces]) limited_cleared).trans (done_keeps _ _ _)

/-! ### SET_PLATFORM, SAVE_SETTINGS (R62, R199) -/

theorem workSetPlatform_keeps (s : State) (k : Nat) : Keeps [] s (workSetPlatform s k) := by
  unfold workSetPlatform
  split
  · exact (platformTo_keeps s _).trans (done_keeps _ _ _)
  · exact refuse_keeps s _ _ _

theorem workSaveSettings_keeps (s : State) (k : Nat) : Keeps [] s (workSaveSettings s k) := by
  unfold workSaveSettings
  exact .ite (fun _ => (accept_keeps s k).trans (beginSave_keeps _ k)) fun _ => refuse_keeps s _ _ _

/-! ### PORT_RESET (R19, R42, R43, R154, R181) -/

theorem bayAfterReset_keeps (s : State) (b : Bay) : Keeps [] s (s.bayAfterReset b) := by
  unfold State.bayAfterReset
  split
  · rename_i hstate
    exact putBay_keeps fun _ => seated_moves (by simp [hstate]) _
  · exact .ite (fun _ => setJolt_keeps ‹_› _) fun _ => .refl [] s
  · exact .refl [] s

theorem startLinkReset_keeps (s : State) (k : Nat) : Keeps [] s (s.startLinkReset k) := link_keeps s _

theorem workLinkReset_keeps (s : State) (k : Nat) : Keeps [] s (workLinkReset s k) := by
  unfold workLinkReset State.linkReset
  refine .ite (fun _ => .ite (fun _ => refuse_keeps s _ _ _) fun _ => ?_) fun _ => refuse_keeps s _ _ _
  have h := ((accept_keeps s k).trans (removeJobs_keeps _ (fun _ => true) .abandoned .portReset)).trans
    (startLinkReset_keeps _ k)
  exact (h.trans (bayAfterReset_keeps _ .a)).trans (bayAfterReset_keeps _ .b)

/-- The monitor in STARTING after a sensor reset (R154). -/
theorem startSensor_fall {s t : State} (h : Lost s t) (k : Nat) (hs : s.FallAgrees) : (t.startSensor k).FallAgrees := by
  obtain ⟨hheld, hr⟩ := (fallAgrees_iff s).1 hs
  obtain ⟨hentries, hepisode, -, hsettling, htail⟩ := h
  refine (fallAgrees_iff _).2 ⟨fallHeld_of_same (s := s) hentries hepisode hheld, ⟨fun hf => ?_,
    fun ht => ?_, fun ht => ?_, fun _ => rfl, nofun⟩⟩
  · have hstate : (t.startSensor k).drop.state = .starting := rfl
    simp [hstate] at hf
  · refine hepisode.trans ?_
    rcases htail ht with ht | hfall
    · exact hr.tail ht
    · exact (hr.standing hfall).1
  · obtain ⟨hsome, hne⟩ := hsettling ht
    exact absurd (hr.settling hsome) hne

theorem lost_of_accept {s t : State} {k : Nat} (h : Lost (s.accept k) t) : Lost s t := by
  obtain ⟨hentries, hepisode, hstarting, hsettling, htail⟩ := h
  exact ⟨hentries, hepisode, hstarting, hsettling, htail⟩

theorem workSensorReset_keeps (s : State) (k : Nat) : Keeps [] s (workSensorReset s k) := by
  unfold workSensorReset State.sensorReset
  refine .ite (fun _ => .ite (fun _ => refuse_keeps s _ _ _) fun _ => ?_) fun _ => refuse_keeps s _ _ _
  have h : Keeps [.fall] s ((s.accept k).loseFall.startSensor k) :=
    (((accept_keeps s k).mono (by simp)).trans (loseFall_keeps_but _)).trans (setDrop_keeps_but fun h => h)
  exact h.and (i := .fall) (startSensor_fall (lost_of_accept (loseFall_lost (s.accept k))) k)

end Sys2Proof.Machine.TheHoldSet
end

section
/-! SUPPORT. Every command keeps the invariants, and so does every step (R94, R102, R104, R121, R131, R135, R158, R168,
R170, R185). -/

namespace Sys2Proof.Machine.TheHoldSet

open Sys2Proof.Machine.PowerSources

/-! ### The end of a command -/

/-- The lines and the live page are all that the end of a command changes (R103, R177, R196). -/
theorem refresh_kept (s a : State) (w : Rewrites) :
    Kept [.storageGuard, .hibernate, .news, .attention] a (State.refresh s w a.driveLines) := by
  intro p hp
  cases p <;> first | rfl | simp at hp

/-- A command's outcome keeps the invariants of a state. -/
def OutcomeKeeps (s : State) (o : Host.Outcome State Fault Refusal) : Prop := ∀ t, o = .next t → Keeps [] s t

theorem finishWith_outcome {s a : State} (h : Keeps [] s a) (w : Rewrites) (before : State) :
    OutcomeKeeps s (finishWith w before a) := by
  intro t ht
  obtain rfl := Host.Outcome.next.inj ht
  exact h.trans (.quiet (refresh_kept before a w))

theorem finish_outcome {s a : State} (h : Keeps [] s a) : OutcomeKeeps s (finish s a) := finishWith_outcome h {} s

theorem finish_same_outcome (s : State) : OutcomeKeeps s (finish s s) := finish_outcome (.refl [] s)

theorem finishDrop_outcome {s a : State} (h : Keeps [] s a) : OutcomeKeeps s (finishDrop s a) := finishWith_outcome h _ s

theorem finishBright_outcome {s a : State} (kind : Nat) (h : Keeps [] s a) : OutcomeKeeps s (finishBright kind s a) :=
  finishWith_outcome h _ s

theorem reached_keeps {s t : State} (now : Instant) (h : Keeps [] (s.reach now) t) : Keeps [] s t :=
  (reach_keeps s now).trans h

theorem outcome_ite {s : State} {c : Prop} [Decidable c] {o o' : Host.Outcome State Fault Refusal}
    (h : c → OutcomeKeeps s o) (h' : ¬ c → OutcomeKeeps s o') : OutcomeKeeps s (if c then o else o') := by
  split
  · exact h ‹_›
  · exact h' ‹_›

/-! ### The commands of a bay (R5 to R12, R20, R71 to R77) -/

theorem seatingTimer_outcome (b : Bay) (s : State) : OutcomeKeeps s (execSeatingTimerExpiry b s) := by
  unfold execSeatingTimerExpiry
  split
  · rename_i t ht
    refine finish_outcome (reached_keeps t ((enterReading_keeps fun hs hr => ?_).trans (post_keeps _ _ _ _ _)))
    obtain ⟨hbays, -⟩ := hs
    have hseating := (hbays b).2.2.1 (by rw [State.reach_bay, ht]; rfl)
    exact absurd (hseating.symm.trans hr) (by decide)
  · exact finish_same_outcome s

theorem contactHold_outcome (b : Bay) (s : State) : OutcomeKeeps s (execContactHoldExpiry b s) := by
  unfold execContactHoldExpiry
  split
  · split
    · exact finish_outcome (reached_keeps _ (holdEnds_keeps ‹_›))
    · exact finish_same_outcome s
  · exact finish_same_outcome s

theorem joltTimer_outcome (b : Bay) (s : State) : OutcomeKeeps s (execJoltTimerExpiry b s) := by
  unfold execJoltTimerExpiry
  split
  · rename_i j hj
    split
    · refine finish_outcome (reached_keeps _ (joltExpires_keeps (fun hs hr => ?_) hj))
      obtain ⟨hbays, -⟩ := hs
      have hjolted := (hbays b).2.2.2 (by rw [State.reach_bay, hj]; rfl)
      exact absurd (hjolted.symm.trans hr) (by decide)
    · exact finish_same_outcome s
  · exact finish_same_outcome s

theorem gaugePoll_outcome (b : Bay) (s : State) : OutcomeKeeps s (execGaugePoll b s) := by
  unfold execGaugePoll
  split
  · exact finish_outcome (reached_keeps _ ((nextPoll_keeps _ b _).trans (poll_keeps _ b)))
  · exact finish_same_outcome s

theorem pressTimer_outcome (b : Bay) (s : State) : OutcomeKeeps s (execPressTimerExpiry b s) := by
  unfold execPressTimerExpiry
  split
  · exact finish_outcome (reached_keeps _ ((takePress_keeps _ b).trans (buttonRequest_keeps _ b)))
  · exact finish_same_outcome s

theorem openConfirm_outcome (b : Bay) (s : State) : OutcomeKeeps s (execOpenConfirmExpiry b s) := by
  unfold execOpenConfirmExpiry
  split
  · exact finish_outcome (reached_keeps _ (openUnconfirmed_keeps _ b))
  · exact finish_same_outcome s

theorem closeConfirm_outcome (b : Bay) (s : State) : OutcomeKeeps s (execCloseConfirmExpiry b s) := by
  unfold execCloseConfirmExpiry
  split
  · exact finish_outcome (reached_keeps _ (closeUnconfirmed_keeps _ b))
  · exact finish_same_outcome s

theorem retryTimer_outcome (b : Bay) (s : State) : OutcomeKeeps s (execRetryTimerExpiry b s) := by
  unfold execRetryTimerExpiry
  split
  · exact finish_outcome (reached_keeps _ (stuckAt_keeps _ b))
  · exact finish_same_outcome s

/-! ### The timers of a release and of a hold (R80, R82, R100) -/

theorem switchingTimer_outcome (s : State) : OutcomeKeeps s (execSwitchingTimerExpiry s) := by
  unfold execSwitchingTimerExpiry
  split
  · rename_i w hw
    split
    · rename_i t ht
      exact finish_outcome (reached_keeps t (unlatch_keeps hw (by simp [ht])))
    · exact finish_same_outcome s
  · exact finish_same_outcome s

theorem windowTimer_outcome (s : State) : OutcomeKeeps s (execWindowTimerExpiry s) := by
  unfold execWindowTimerExpiry
  split
  · rename_i w hw
    split
    · rename_i t ht
      exact finish_outcome (reached_keeps t (enterRelatching_keeps (s := s.reach t) _ hw))
    · exact finish_same_outcome s
  · exact finish_same_outcome s

theorem holdTimer_outcome (kind : HoldKind) (s : State) : OutcomeKeeps s (execHoldExpiry kind s) := by
  unfold execHoldExpiry
  split
  · exact finish_outcome (reached_keeps _ (holdRemove_keeps _ kind (by simp)))
  · exact finish_same_outcome s

/-! ### The power unit's commands (R47 to R50) -/

theorem dcChange_outcome (level : Bool) (s : State) : OutcomeKeeps s (execDcPresentChange level s) :=
  finish_outcome ((setDcPin_keeps s level).trans (power_keeps (s := s.setDcPin level) rfl))

theorem dcDebounce_outcome (id : DcClass) (s : State) : OutcomeKeeps s (execDcDebounceExpiry id s) := by
  unfold execDcDebounceExpiry
  split
  · exact finish_outcome (.ite (fun _ => reached_keeps _ (dcArrives_keeps _ id)) fun _ =>
      reached_keeps _ (dcLeaves_keeps _))
  · exact finish_same_outcome s

theorem railSample_outcome (milliwatts : Int) (s : State) : OutcomeKeeps s (execRailSample milliwatts s) :=
  finish_outcome (reached_keeps s.power.railDue (power_keeps (s := s.reach s.power.railDue) rfl))

/-! ### The drop monitor's commands (R135, R136, R140, R147, R151 to R153) -/

theorem accelSample_outcome (reading : Accel) (s : State) : OutcomeKeeps s (execAccelSample reading s) := by
  unfold execAccelSample
  split
  · exact outcome_ite (fun _ => finishWith_outcome (sampled_keeps ‹_› _) _ s) fun _ =>
      finishDrop_outcome (sampled_keeps ‹_› _)
  · exact finish_same_outcome s

theorem missingSample_outcome (s : State) : OutcomeKeeps s (execMissingSample s) := by
  unfold execMissingSample
  split
  · exact finishDrop_outcome (sampled_keeps ‹_› _)
  · exact finish_same_outcome s

theorem sensorLoss_outcome (s : State) : OutcomeKeeps s (execSensorLoss s) := by
  unfold execSensorLoss
  split
  · exact outcome_ite (fun _ => finishDrop_outcome (sampled_keeps ‹_› _)) fun _ => finish_same_outcome s
  · exact finish_same_outcome s

theorem windowEnd_outcome (reading : Option Accel) (s : State) : OutcomeKeeps s (execImpactWindowEnd reading s) := by
  unfold execImpactWindowEnd
  split
  · exact outcome_ite (fun _ => finishDrop_outcome (sampled_keeps ‹_› _)) fun _ => finish_same_outcome s
  · exact finish_same_outcome s

theorem settleTimer_outcome (s : State) : OutcomeKeeps s (execSettleTimerExpiry s) := by
  unfold execSettleTimerExpiry
  split
  · rename_i g hg
    exact finishDrop_outcome (reached_keeps _ (settled_keeps (s := s.reach g.settleTimer) hg))
  · exact finish_same_outcome s

theorem settlingCap_outcome (s : State) : OutcomeKeeps s (execSettlingCapExpiry s) := by
  unfold execSettlingCapExpiry
  split
  · rename_i g hg
    exact finishDrop_outcome (reached_keeps _ (settled_keeps (s := s.reach g.capTimer) hg))
  · exact finish_same_outcome s

theorem guardTail_outcome (s : State) : OutcomeKeeps s (execGuardTailExpiry s) := by
  unfold execGuardTailExpiry
  split
  · exact finishDrop_outcome (tailEnd_keeps ‹_›)
  · exact finish_same_outcome s

theorem startingTimer_outcome (s : State) : OutcomeKeeps s (execStartingTimerExpiry s) := by
  unfold execStartingTimerExpiry
  split
  · rename_i g hg
    exact finishDrop_outcome (reached_keeps _ (started_keeps (s := s.reach g.timer) hg))
  · exact finish_same_outcome s

/-! ### The pack wire's commands, and the save's end (R28 to R31, R42, R200) -/

theorem setPhase_keeps (s : State) (t : Transaction) (p : WirePhase) : Keeps [] s (s.setPhase t p) := link_keeps s _

theorem requestEnd_outcome (s : State) : OutcomeKeeps s (execRequestFrameEnd s) := by
  unfold execRequestFrameEnd
  split
  · split
    · exact finish_outcome (reached_keeps _ (setPhase_keeps _ _ _))
    · exact finish_same_outcome s
  · exact finish_same_outcome s

theorem answerWindow_outcome (s : State) : OutcomeKeeps s (execAnswerWindowExpiry s) := by
  unfold execAnswerWindowExpiry
  split
  · split
    · exact finish_outcome (reached_keeps _ (endTransaction_keeps _ _ _ _))
    · exact finish_same_outcome s
  · exact finish_same_outcome s

theorem answerBegin_outcome (s : State) : OutcomeKeeps s (execAnswerFrameBegin s) := by
  unfold execAnswerFrameBegin
  split
  · split
    · exact finish_outcome (.ite (fun _ => setPhase_keeps s _ _) fun _ => .refl [] s)
    · exact finish_same_outcome s
  · exact finish_same_outcome s

theorem answerFrame_outcome (bytes : List Byte) (s : State) : OutcomeKeeps s (execAnswerFrame bytes s) := by
  unfold execAnswerFrame
  split
  · exact finish_outcome (.ite (fun _ => answerEnd_keeps s _ _) fun _ => .refl [] s)
  · exact finish_same_outcome s

theorem answerGap_outcome (s : State) : OutcomeKeeps s (execAnswerFrameGapEnd s) := by
  unfold execAnswerFrameGapEnd
  split
  · exact finish_outcome (.ite (fun _ => answerFailed_keeps s _) fun _ => .refl [] s)
  · exact finish_same_outcome s

theorem resetTimer_outcome (s : State) : OutcomeKeeps s (execResetTimerExpiry s) := by
  unfold execResetTimerExpiry
  split
  · exact finish_outcome (reached_keeps _ (linkResetEnd_keeps _))
  · exact finish_same_outcome s

theorem saveTimer_outcome (failed : Option (Fin 4)) (s : State) : OutcomeKeeps s (execSaveTimerExpiry failed s) := by
  unfold execSaveTimerExpiry
  split
  · exact finish_outcome (reached_keeps _ (endSave_keeps _ _ _))
  · exact finish_same_outcome s

/-! ### Resets and the port (R168, R185, R187, R201) -/

/-- Power-on reset keeps the invariants because it makes them hold. -/
theorem powerOnReset_outcome (pins : PinLevels) (s : State) : OutcomeKeeps s (execPowerOnReset pins s) := by
  have hpins := ((contactAtPowerOn_keeps (s.powerOn pins) .a).trans (contactAtPowerOn_keeps _ .b)).trans
    (dcAtPowerOn_keeps _)
  have h : Keeps [] s ((((s.powerOn pins).contactAtPowerOn .a).contactAtPowerOn .b).dcAtPowerOn) :=
    fun i hi _ => hpins i hi (powerOn_meets s pins i)
  exact finishWith_outcome h {} (s.powerOn pins)

theorem startupEnd_outcome (s : State) : OutcomeKeeps s (execStartupEnd s) :=
  outcome_ite (fun _ => finishWith_outcome (endStartup_keeps s) _ s) fun _ => finish_same_outcome s

theorem careResetEnd_outcome (s : State) : OutcomeKeeps s (execCareResetEnd s) :=
  outcome_ite (fun _ => finishWith_outcome (endCareReset_keeps s) _ s) fun _ => finish_same_outcome s

theorem read_outcome (addr : Addr) (length : BitVec 16) (s : State) : OutcomeKeeps s (execRead addr length s) :=
  finish_outcome (.ite (fun hp => portRead_keeps hp _ _) fun _ => silent_keeps s)

theorem ownerWord_keeps (s : State) (slot value : Nat) (via : Via) :
    Keeps [] s (if slot < 24 then s.hostWord (slotBase slot) value via else s) :=
  .ite (fun _ => hostWord_keeps s _ _ _) fun _ => .refl [] s

/-! ### Every command, and every step -/

/-- The command at the front of the queue keeps every invariant. -/
theorem exec_outcome (c : Instr) (s : State) : OutcomeKeeps s (exec c s) := by
  cases c with
  | powerOnReset pins => exact powerOnReset_outcome pins s
  | startupEnd => exact startupEnd_outcome s
  | hostPresentChange level => exact finish_outcome (.ite (fun _ => raiseHost_keeps s) fun _ => lowerHost_keeps s)
  | read addr length => exact read_outcome addr length s
  | write addr data => exact finish_outcome (frame_keeps (portWrite_keeps s _ _))
  | exchangeIfEqual addr compare new => exact finish_outcome (frame_keeps (portExchange_keeps s _ _ _))
  | setBits addr mask => exact finish_outcome (frame_keeps (portSetBits_keeps s _ _))
  | clearBits addr mask => exact finish_outcome (frame_keeps (portClearBits_keeps s _ _))
  | unknownOperation op => exact finish_outcome (.ite (fun _ => .refl [] s) fun _ => frame_keeps (portUnknown_keeps s))
  | frameDiscarded => exact finish_outcome (silent_keeps s)
  | careReset via => exact finish_outcome (hostWord_keeps s _ _ via)
  | careResetEnd => exact careResetEnd_outcome s
  | newsWrite via value => exact finish_outcome (hostWord_keeps s _ _ via)
  | newsForceWrite via value => exact finish_outcome (hostWord_keeps s _ _ via)
  | newsMaskWrite via value => exact finish_outcome (hostWord_keeps s _ _ via)
  | noticeTopWrite via value => exact finish_outcome (hostWord_keeps s _ _ via)
  | arrival slot via => exact finish_outcome (ownerWord_keeps s slot _ via)
  | ownerWordEmpty slot via => exact finish_outcome (ownerWord_keeps s slot _ via)
  | unknownKind => exact finish_outcome (takeUnknown_keeps s)
  | bayRelease => exact finish_outcome (take_keeps s 1 workBayRelease_keeps)
  | cancel => exact finish_outcome (take_keeps s 2 workCancel_keeps)
  | packQuery => exact finish_outcome (take_keeps s 3 workPackQuery_keeps)
  | bayRecheck => exact finish_outcome (take_keeps s 4 workBayRecheck_keeps)
  | setCharge => exact finish_outcome (take_keeps s 5 workSetCharge_keeps)
  | setCurve => exact finishBright_outcome 6 (take_keeps s 6 workSetCurve_keeps)
  | setBrightness => exact finishBright_outcome 7 (take_keeps s 7 workSetBrightness_keeps)
  | setDisplay => exact finish_outcome (take_keeps s 8 workSetDisplay_keeps)
  | setDrop => exact finishWith_outcome (take_keeps s 9 workSetDrop_keeps) _ s
  | setSwap => exact finish_outcome (take_keeps s 10 workSetSwap_keeps)
  | hold => exact finish_outcome (take_keeps s 11 workHold_keeps)
  | unhold => exact finish_outcome (take_keeps s 12 workUnhold_keeps)
  | pinImpact => exact finish_outcome (take_keeps s 13 workPinImpact_keeps)
  | unpinImpact => exact finish_outcome (take_keeps s 14 workUnpinImpact_keeps)
  | clearImpacts => exact finish_outcome (take_keeps s 15 workClearImpacts_keeps)
  | setPlatform => exact finish_outcome (take_keeps s 16 workSetPlatform_keeps)
  | saveSettings => exact finish_outcome (take_keeps s 17 workSaveSettings_keeps)
  | packLinkPortReset => exact finish_outcome (.ite (fun _ => .refl [] s) fun _ => take_keeps s 18 workLinkReset_keeps)
  | sensorPortReset =>
    exact finishDrop_outcome (.ite (fun _ => .refl [] s) fun _ => take_keeps s 18 workSensorReset_keeps)
  | contactArrival b => exact finish_outcome ((setBayPins_keeps s b _).trans (contactArrives_keeps _ b))
  | contactLoss b => exact finish_outcome ((setBayPins_keeps s b _).trans (contactLeaves_keeps _ b))
  | seatingTimerExpiry b => exact seatingTimer_outcome b s
  | contactHoldExpiry b => exact contactHold_outcome b s
  | joltTimerExpiry b => exact joltTimer_outcome b s
  | gaugePoll b => exact gaugePoll_outcome b s
  | buttonChange b pressed =>
    exact finish_outcome ((setBayPins_keeps s b _).trans (button_keeps (s.setButton b pressed) b pressed))
  | pressTimerExpiry b => exact pressTimer_outcome b s
  | latchSensorChange b reading => exact finish_outcome ((setBayPins_keeps s b _).trans (latchReads_keeps _ b reading))
  | openConfirmExpiry b => exact openConfirm_outcome b s
  | closeConfirmExpiry b => exact closeConfirm_outcome b s
  | retryTimerExpiry b => exact retryTimer_outcome b s
  | switchingTimerExpiry => exact switchingTimer_outcome s
  | windowTimerExpiry => exact windowTimer_outcome s
  | holdExpiry kind => exact holdTimer_outcome kind s
  | dcPresentChange level => exact dcChange_outcome level s
  | dcDebounceExpiry id => exact dcDebounce_outcome id s
  | railSample milliwatts => exact railSample_outcome milliwatts s
  | budgetStep => exact finishWith_outcome (reached_keeps _ (budget_keeps _)) _ s
  | brightnessStep front top panel => exact finishWith_outcome (reached_keeps _ (brightStep_keeps _ front top panel)) _ s
  | accelSample reading => exact accelSample_outcome reading s
  | missingSample => exact missingSample_outcome s
  | sensorLoss => exact sensorLoss_outcome s
  | impactWindowEnd reading => exact windowEnd_outcome reading s
  | settleTimerExpiry => exact settleTimer_outcome s
  | settlingCapExpiry => exact settlingCap_outcome s
  | guardTailExpiry => exact guardTail_outcome s
  | startingTimerExpiry => exact startingTimer_outcome s
  | requestFrameEnd => exact requestEnd_outcome s
  | answerFrame bytes => exact answerFrame_outcome bytes s
  | answerFrameGapEnd => exact answerGap_outcome s
  | answerWindowExpiry => exact answerWindow_outcome s
  | resetTimerExpiry => exact resetTimer_outcome s
  | saveTimerExpiry failed => exact saveTimer_outcome failed s
  | answerFrameBegin => exact answerBegin_outcome s

theorem tick_kept (s : State) : Kept [.clock] s s.tick := by
  intro p hp
  cases p <;> first | rfl | simp at hp

theorem pending_kept (s : State) (l : List Instr) : Kept [.pending] s { s with pending := l } := by
  intro p hp
  cases p <;> first | rfl | simp at hp

/-- Every step keeps every invariant. -/
theorem step_keeps {s t : State} (h : step s = .next t) : Keeps [] s t := by
  unfold step at h
  split at h
  · obtain rfl := Host.Outcome.next.inj h
    exact (Keeps.quiet (tick_kept s)).trans (serve_keeps _)
  · rename_i c rest _
    exact (Keeps.quiet (pending_kept s rest)).trans (exec_outcome c _ t h)

/-- Settles O12: each of the six invariants is one that every step keeps. -/
theorem stepKeepsShape : Obligations.StepKeepsShape := by
  have keep {s t : State} (h : step s = .next t) (i : Invariant) : Meets s i → Meets t i := step_keeps h i (by simp)
  exact ⟨fun _ _ hs h => keep h .shaped hs, fun _ _ hs h => keep h .store hs, fun _ _ hs h => keep h .fall hs,
    fun _ _ hs h => keep h .latch hs, fun _ _ hs h => keep h .display hs, fun _ _ hs h => keep h .read hs⟩

end Sys2Proof.Machine.TheHoldSet
end

section
/-! SUPPORT. What the settling end leaves of the records and of the jobs that stamp them (R33, R36, R161, R162). -/

namespace Sys2Proof.Machine.TheHoldSet

open Sys2Proof.Machine.PowerSources

/-! ### Jobs that name a record (R33, R36) -/

/-- A job of a bay names the record of a sequence. -/
def NamesRecord (b : Bay) (q : Nat) (j : Job) : Prop := j.bay = b ∧ ∃ i ∈ j.work.stampItems, i.sequence = q

/-- A job is present that names a record for a bay. -/
def JobNames (l : PackLink) (b : Bay) (q : Nat) : Prop := ∃ j ∈ l.jobs, NamesRecord b q j

theorem soonest_mem {l : List Job} {j : Job} (h : soonest l = some j) : j ∈ l := by
  induction l generalizing j with
  | nil => simp [soonest] at h
  | cons k ks ih =>
    unfold soonest at h
    split at h
    · simp_all
    · rename_i m hm
      split at h
      · rw [Option.some_inj] at h
        exact List.mem_cons_of_mem _ (h ▸ ih hm)
      · simp_all

/-- The arbiter puts a waiting job in flight; none joins and none leaves. -/
theorem mem_arbitrate_jobs (s : State) (j : Job) : j ∈ s.arbitrate.link.jobs ↔ j ∈ s.link.jobs := by
  unfold State.arbitrate
  split
  · exact Iff.rfl
  · rename_i hfree
    have hnone : s.link.inFlight = none := by
      simp only [Bool.or_eq_true, not_or, Bool.not_eq_true, Option.isSome_eq_false_iff, Option.isNone_iff_eq_none] at hfree
      exact hfree.1
    have hjobs : s.link.jobs = s.link.waiting := by simp [PackLink.jobs, PackLink.flying, hnone]
    split
    · rename_i k hk
      rw [hjobs, (List.perm_cons_erase (soonest_mem hk)).mem_iff]
      exact Iff.rfl
    · exact Iff.rfl

theorem mem_join_jobs (s : State) (b : Bay) (w : Work) (j : Job) : j ∈ (s.join b w).link.jobs ↔
    j ∈ s.link.jobs ∨ j = { bay := b, work := w, queuedAt := s.clock / 4, order := s.link.nextOrder } := by
  have hjoined : ∀ (n : Nat) (x : Job),
      j ∈ ({ s.link with waiting := s.link.waiting ++ [x], nextOrder := n } : PackLink).jobs ↔ j ∈ s.link.jobs ∨ j = x := by
    intro n x
    simp [PackLink.jobs, PackLink.flying, or_assoc]
  unfold State.join
  dsimp only
  split
  · rw [mem_arbitrate_jobs]
    exact hjoined _ _
  · exact hjoined _ _

/-- A job after a record joins the STAMP job of a bay: the same bay, and every record that it named. -/
def Grown (b : Bay) (i : StampItem) (j k : Job) : Prop :=
  k.bay = j.bay ∧ (∀ x ∈ j.work.stampItems, x ∈ k.work.stampItems) ∧ (j.stampsBay b = true → i ∈ k.work.stampItems)

theorem mem_cover {w : Work} (h : w.isStamp = true) (i x : StampItem) :
    x ∈ (w.cover i).stampItems ↔ x ∈ w.stampItems ∨ x = i := by
  cases w with
  | stamp covered followOn =>
    simp only [Work.cover, Work.stampItems, List.mem_append, List.mem_singleton]
    tauto
  | _ => simp [Work.isStamp] at h

theorem mem_follow {w : Work} (h : w.isStamp = true) (i x : StampItem) :
    x ∈ (w.follow i).stampItems ↔ x ∈ w.stampItems ∨ x = i := by
  cases w with
  | stamp covered followOn => simp [Work.follow, Work.stampItems, or_assoc]
  | _ => simp [Work.isStamp] at h

/-- A STAMP job of the bay that takes the record, and any other job as it is. -/
theorem grown_ite {b : Bay} {i : StampItem} {j : Job} {w : Work}
    (h : j.work.isStamp = true → ∀ x, x ∈ w.stampItems ↔ x ∈ j.work.stampItems ∨ x = i) :
    Grown b i j (if j.stampsBay b then { j with work := w } else j) := by
  by_cases hj : j.stampsBay b = true
  · rw [if_pos hj]
    have hstamp : j.work.isStamp = true := by
      simp only [Job.stampsBay, Bool.and_eq_true] at hj
      exact hj.2
    exact ⟨rfl, fun x hx => (h hstamp x).2 (.inl hx), fun _ => (h hstamp i).2 (.inr rfl)⟩
  · rw [if_neg hj]
    exact ⟨rfl, fun _ => id, fun h => absurd h hj⟩

theorem cover_grown (b : Bay) (i : StampItem) (j : Job) :
    Grown b i j (if j.stampsBay b then { j with work := j.work.cover i } else j) :=
  grown_ite fun h => mem_cover h i

theorem follow_grown (b : Bay) (i : StampItem) (j : Job) :
    Grown b i j (if j.stampsBay b then { j with work := j.work.follow i } else j) :=
  grown_ite fun h => mem_follow h i

theorem addStamp_grown (l : PackLink) (b : Bay) (i : StampItem) {j : Job} (hj : j ∈ l.jobs) :
    ∃ k ∈ (l.addStamp b i).jobs, Grown b i j k := by
  simp only [PackLink.jobs, List.mem_append, Option.mem_toList] at hj
  rcases hj with hj | hj
  · have hflight : ∃ t : Transaction, l.inFlight = some t ∧ t.job = j := by
      unfold PackLink.flying at hj
      split at hj
      · exact ⟨_, ‹_›, by simpa using hj⟩
      · simp at hj
    obtain ⟨t, ht, rfl⟩ := hflight
    refine ⟨_, List.mem_append_left _ ?_, follow_grown b i t.job⟩
    simp only [PackLink.flying, PackLink.addStamp, ht, Option.mem_toList, Option.some_inj]
    split <;> rfl
  · exact ⟨_, List.mem_append_right _ (List.mem_map_of_mem hj), cover_grown b i j⟩

/-- A record handed for a bay leaves every name in place, and is named itself (R36). -/
theorem handStamp_names (s : State) (b c : Bay) (i : StampItem) (q : Nat) (h : JobNames s.link c q) :
    JobNames (s.handStamp b i).link c q := by
  obtain ⟨j, hj, hbay, x, hx, hq⟩ := h
  unfold State.handStamp
  split
  · obtain ⟨k, hk, hkbay, hitems, -⟩ := addStamp_grown s.link b i hj
    exact ⟨k, hk, hkbay.trans hbay, x, hitems x hx, hq⟩
  · exact ⟨j, (mem_join_jobs s b _ j).2 (.inl hj), hbay, x, hx, hq⟩

theorem handStamp_named (s : State) (b : Bay) (i : StampItem) : JobNames (s.handStamp b i).link b i.sequence := by
  unfold State.handStamp
  split
  · rename_i hany
    obtain ⟨j, hj, hstamps⟩ := List.any_eq_true.1 hany
    obtain ⟨k, hk, hbay, -, hitem⟩ := addStamp_grown s.link b i hj
    have hjbay : j.bay = b := by
      unfold Job.stampsBay at hstamps
      simp only [Bool.and_eq_true, decide_eq_true_eq] at hstamps
      exact hstamps.1
    exact ⟨k, hk, hbay.trans hjbay, i, hitem hstamps, rfl⟩
  · exact ⟨_, (mem_join_jobs s b _ _).2 (.inr rfl), rfl, i, by simp [Work.stampItems], rfl⟩

theorem handRecord_names (s : State) (r : ImpactRecord) (b c : Bay) (q : Nat) (h : JobNames s.link c q) :
    JobNames (s.handRecord r b).link c q := by
  unfold State.handRecord
  split
  · exact handStamp_names s b c _ q h
  · exact h

theorem handRecord_named {s : State} {r : ImpactRecord} {b : Bay} (h : (s.bay b).takesStamp = true) :
    JobNames (s.handRecord r b).link b r.sequence := by
  rw [State.handRecord, if_pos h]
  exact handStamp_named s b _

/-! ### The records of the store -/

theorem record_update {f : ImpactRecord → ImpactRecord} (hf : ∀ r, (f r).sequence = r.sequence) (u : ImpactStore)
    (q p : Nat) : (u.update q f).record p = if p = q then (u.record p).map f else u.record p := by
  have hsame : (fun r : ImpactRecord => decide ((changedAt q f r).sequence = p)) = fun r => decide (r.sequence = p) := by
    funext r
    unfold changedAt
    split
    · rw [hf]
    · rfl
  have hfind : (u.update q f).record p = (u.record p).map (changedAt q f) := by
    unfold ImpactStore.record
    rw [update_records, List.find?_map]
    exact congrArg (fun g => (List.find? g u.records).map (changedAt q f)) hsame
  rw [hfind]
  cases hr : u.record p with
  | none => simp
  | some r =>
    have hp : r.sequence = p := by simpa using List.find?_some hr
    by_cases hpq : p = q
    · simp [changedAt, hp, hpq]
    · simp [changedAt, hp, hpq]

theorem record_sequence {u : ImpactStore} {q : Nat} {r : ImpactRecord} (h : u.record q = some r) : r.sequence = q := by
  simpa using List.find?_some h

theorem record_setStamp (u : ImpactStore) (b : Bay) (o : StampOutcome) (q p : Nat) :
    (u.update q (fun r => r.setStamp b o)).record p =
      if p = q then (u.record p).map (fun r => r.setStamp b o) else u.record p :=
  record_update (f := fun r => r.setStamp b o) (fun _ => rfl) u q p

theorem record_resolve_ne {u : ImpactStore} {q p : Nat} (h : p ≠ q) (now : Instant) :
    (u.resolve q now).record p = u.record p := by
  unfold ImpactStore.resolve
  split
  · rw [record_update (f := fun r => r.close now) fun _ => rfl, if_neg h]
  · rfl

theorem record_resolve {u : ImpactStore} {q : Nat} {r : ImpactRecord} (h : u.record q = some r) (now : Instant) :
    (u.resolve q now).record q = some (if r.isOpen && !r.stamping then r.close now else r) := by
  unfold ImpactStore.resolve ImpactStore.resolves
  rw [h]
  dsimp only
  split
  · rw [record_update (f := fun r => r.close now) fun _ => rfl, if_pos rfl, h]
    rfl
  · exact h

theorem putStamps_impact (s : State) (u : ImpactStore) (q : Nat) : (s.putStamps u q).impact = u.resolve q s.clock := by
  unfold State.putStamps
  split
  · rfl
  · rename_i h
    rw [ImpactStore.resolve, if_neg h]
    rfl

/-! ### The decision for one record (R161, R162) -/

/-- The record with its stamp outcome PENDING for a bay that takes a stamp, and left alone for one that does not. -/
def decided (s : State) (b : Bay) (r : ImpactRecord) : ImpactRecord :=
  if (s.bay b).takesStamp then r.setStamp b .pending else r

theorem record_decideStamp (s : State) (u : ImpactStore) (b : Bay) (q p : Nat) :
    (s.decideStamp q b u).record p = if p = q then (u.record p).map (decided s b) else u.record p := by
  unfold State.decideStamp decided
  split
  · exact record_setStamp u b .pending q p
  · simp

theorem handRecord_impact (s : State) (r : ImpactRecord) (b : Bay) : (s.handRecord r b).impact = s.impact :=
  handRecord_kept s r b .impact (by simp)

/-- The store after the decision for one open record. -/
theorem settleRecord_open {s : State} {q : Nat} {r : ImpactRecord} (h : s.impact.record q = some r)
    (ho : r.isOpen = true) : s.settleRecord q =
      (((s.putStamps (s.decideStamp q .b (s.decideStamp q .a s.impact)) q).handRecord r .a).handRecord r .b) := by
  unfold State.settleRecord
  rw [h]
  exact if_pos ho

theorem settleRecord_closed {s : State} {q : Nat} {r : ImpactRecord} (h : s.impact.record q = some r)
    (ho : r.isOpen = false) : s.settleRecord q = s := by
  unfold State.settleRecord
  rw [h]
  exact if_neg (by simp [ho])

theorem settleRecord_absent {s : State} {q : Nat} (h : s.impact.record q = none) : s.settleRecord q = s := by
  unfold State.settleRecord
  rw [h]

theorem settleRecord_impact {s : State} {q : Nat} {r : ImpactRecord} (h : s.impact.record q = some r)
    (ho : r.isOpen = true) :
    (s.settleRecord q).impact = (s.decideStamp q .b (s.decideStamp q .a s.impact)).resolve q s.clock := by
  rw [settleRecord_open h ho, handRecord_impact, handRecord_impact, putStamps_impact]

/-- The decision for a record leaves every other record alone. -/
theorem settleRecord_record_ne (s : State) {q p : Nat} (hp : p ≠ q) :
    (s.settleRecord q).impact.record p = s.impact.record p := by
  cases h : s.impact.record q with
  | none => rw [settleRecord_absent h]
  | some r =>
    cases ho : r.isOpen with
    | false => rw [settleRecord_closed h ho]
    | true =>
      rw [settleRecord_impact h ho, record_resolve_ne hp, record_decideStamp, if_neg hp, record_decideStamp, if_neg hp]

theorem settleRecord_record {s : State} {q : Nat} {r : ImpactRecord} (h : s.impact.record q = some r)
    (ho : r.isOpen = true) : (s.settleRecord q).impact.record q =
      some (if (decided s .b (decided s .a r)).stamping then decided s .b (decided s .a r)
        else (decided s .b (decided s .a r)).close s.clock) := by
  have hdecided : (s.decideStamp q .b (s.decideStamp q .a s.impact)).record q = some (decided s .b (decided s .a r)) := by
    rw [record_decideStamp, if_pos rfl, record_decideStamp, if_pos rfl, h]
    rfl
  have hopen : (decided s .b (decided s .a r)).isOpen = true := by
    unfold decided
    split <;> split <;> exact ho
  rw [settleRecord_impact h ho, record_resolve hdecided, hopen, Bool.true_and]
  cases (decided s .b (decided s .a r)).stamping <;> rfl

theorem settleRecord_names (s : State) (b : Bay) (q p : Nat) (h : JobNames s.link b p) :
    JobNames (s.settleRecord q).link b p := by
  cases hr : s.impact.record q with
  | none => rwa [settleRecord_absent hr]
  | some r =>
    cases ho : r.isOpen with
    | false => rwa [settleRecord_closed hr ho]
    | true =>
      rw [settleRecord_open hr ho]
      refine handRecord_names _ r .b b p (handRecord_names _ r .a b p ?_)
      rwa [show (s.putStamps _ q).link = s.link from putStamps_kept s _ q .link (by simp)]

theorem settleRecord_bay (s : State) (q : Nat) (b : Bay) : (s.settleRecord q).bay b = s.bay b :=
  settleRecord_kept s q (.bay b) (by simp)

theorem settleRecord_clock (s : State) (q : Nat) : (s.settleRecord q).clock = s.clock :=
  settleRecord_kept s q .clock (by simp)

theorem settleRecord_named {s : State} {b : Bay} {q : Nat} {r : ImpactRecord} (h : s.impact.record q = some r)
    (ho : r.isOpen = true) (hb : (s.bay b).takesStamp = true) : JobNames (s.settleRecord q).link b q := by
  have hput (x : Bay) : (s.putStamps (s.decideStamp q .b (s.decideStamp q .a s.impact)) q).bay x = s.bay x :=
    putStamps_kept s _ q (.bay x) (by simp)
  rw [settleRecord_open h ho]
  cases b with
  | a =>
    have hnamed := handRecord_named (r := r) (by rw [hput]; exact hb)
    rw [record_sequence h] at hnamed
    exact handRecord_names _ r .b .a q hnamed
  | b =>
    have hbay (t : State) : (t.handRecord r .a).bay .b = t.bay .b := handRecord_kept t r .a (.bay .b) (by simp)
    have hnamed := handRecord_named (r := r) (b := .b) (by rw [hbay, hput]; exact hb)
    rwa [record_sequence h] at hnamed

/-! ### A record that awaits its stamps -/

/-- The record of a sequence is open and PENDING for a bay. -/
def Awaits (s : State) (b : Bay) (q : Nat) : Prop :=
  ∃ r, s.impact.record q = some r ∧ r.isOpen = true ∧ r.stampOf b = .pending

theorem decided_stampOf {s : State} {b : Bay} (x : Bay) {r : ImpactRecord} (h : r.stampOf b = .pending) :
    (decided s x r).stampOf b = .pending := by
  unfold decided
  split
  · cases b <;> cases x
    exacts [rfl, h, h, rfl]
  · exact h

theorem decided_takes {s : State} {b : Bay} (hb : (s.bay b).takesStamp = true) (r : ImpactRecord) :
    (decided s b r).stampOf b = .pending := by
  rw [decided, if_pos hb]
  cases b <;> rfl

theorem decided_isOpen (s : State) (b : Bay) (r : ImpactRecord) : (decided s b r).isOpen = r.isOpen := by
  unfold decided
  split <;> rfl

theorem stamping_of_stampOf {r : ImpactRecord} {b : Bay} (h : r.stampOf b = .pending) : r.stamping = true := by
  cases b
  · simp [ImpactRecord.stamping, show r.stampA = .pending from h]
  · simp [ImpactRecord.stamping, show r.stampB = .pending from h]

/-- An open record that the decision leaves PENDING for a bay awaits that stamp. -/
theorem awaits_settled {s : State} {b : Bay} {q : Nat} {r : ImpactRecord} (h : s.impact.record q = some r)
    (ho : r.isOpen = true) (hp : (decided s .b (decided s .a r)).stampOf b = .pending) : Awaits (s.settleRecord q) b q := by
  refine ⟨decided s .b (decided s .a r), ?_, ?_, hp⟩
  · rw [settleRecord_record h ho, if_pos (stamping_of_stampOf hp)]
  · rw [decided_isOpen, decided_isOpen, ho]

theorem awaits_of_takes {s : State} {b : Bay} {q : Nat} {r : ImpactRecord} (h : s.impact.record q = some r)
    (ho : r.isOpen = true) (hb : (s.bay b).takesStamp = true) : Awaits (s.settleRecord q) b q := by
  refine awaits_settled h ho ?_
  cases b with
  | a => exact decided_stampOf .b (decided_takes hb r)
  | b => exact decided_takes hb _

/-- A record that awaits a stamp goes on to await it. -/
theorem awaits_settleRecord {s : State} {b : Bay} {q : Nat} (p : Nat) (h : Awaits s b q) :
    Awaits (s.settleRecord p) b q := by
  obtain ⟨r, hr, ho, hp⟩ := h
  by_cases hqp : q = p
  · subst hqp
    exact awaits_settled hr ho (decided_stampOf .b (decided_stampOf .a hp))
  · exact ⟨r, (settleRecord_record_ne s hqp).trans hr, ho, hp⟩

/-! ### The settling end of a list of records -/

theorem settlingEnd_cons (s : State) (q : Nat) (qs : List Nat) :
    s.settlingEnd (q :: qs) = (s.settleRecord q).settlingEnd qs := rfl

theorem settlingEnd_names {s : State} {b : Bay} {q : Nat} (l : List Nat) (h : JobNames s.link b q) :
    JobNames (s.settlingEnd l).link b q := by
  induction l generalizing s with
  | nil => exact h
  | cons p ps ih => exact ih (settleRecord_names s b p q h)

theorem settlingEnd_awaits {s : State} {b : Bay} {q : Nat} (l : List Nat) (h : Awaits s b q) :
    Awaits (s.settlingEnd l) b q := by
  induction l generalizing s with
  | nil => exact h
  | cons p ps ih => exact ih (awaits_settleRecord p h)

/-- A closed record stays as it is. -/
theorem settlingEnd_closed {s : State} {q : Nat} {r : ImpactRecord} (l : List Nat) (h : s.impact.record q = some r)
    (ho : r.isOpen = false) : (s.settlingEnd l).impact.record q = some r := by
  induction l generalizing s with
  | nil => exact h
  | cons p ps ih =>
    rw [settlingEnd_cons]
    by_cases hqp : q = p
    · subst hqp
      rw [settleRecord_closed h ho]
      exact ih h
    · exact ih ((settleRecord_record_ne s hqp).trans h)

/-- An open record of the list awaits the stamp of each bay that takes one, and a job names it. -/
theorem settlingEnd_pending {s : State} {b : Bay} {q : Nat} {r : ImpactRecord} {l : List Nat} (hq : q ∈ l)
    (h : s.impact.record q = some r) (ho : r.isOpen = true) (hb : (s.bay b).takesStamp = true) :
    Awaits (s.settlingEnd l) b q ∧ JobNames (s.settlingEnd l).link b q := by
  induction l generalizing s with
  | nil => simp at hq
  | cons p ps ih =>
    rw [settlingEnd_cons]
    by_cases hqp : q = p
    · subst hqp
      exact ⟨settlingEnd_awaits ps (awaits_of_takes h ho hb), settlingEnd_names ps (settleRecord_named h ho hb)⟩
    · exact ih ((List.mem_cons.1 hq).resolve_left hqp) ((settleRecord_record_ne s hqp).trans h)
        (by rwa [settleRecord_bay])

/-- With no bay that takes a stamp, and none PENDING, an open record of the list closes at once. -/
theorem settlingEnd_closes {s : State} {q : Nat} {r : ImpactRecord} {l : List Nat} (hq : q ∈ l)
    (h : s.impact.record q = some r) (ho : r.isOpen = true) (ha : (s.bay .a).takesStamp = false)
    (hb : (s.bay .b).takesStamp = false) (hs : r.stamping = false) :
    (s.settlingEnd l).impact.record q = some (r.close s.clock) := by
  induction l generalizing s with
  | nil => simp at hq
  | cons p ps ih =>
    rw [settlingEnd_cons]
    by_cases hqp : q = p
    · subst hqp
      refine settlingEnd_closed ps ?_ rfl
      have hsame : decided s .b (decided s .a r) = r := by simp [decided, ha, hb]
      rw [settleRecord_record h ho, hsame, hs]
      rfl
    · rw [← settleRecord_clock s p]
      exact ih ((List.mem_cons.1 hq).resolve_left hqp) ((settleRecord_record_ne s hqp).trans h)
        (by rwa [settleRecord_bay]) (by rwa [settleRecord_bay])

theorem takesStamp_iff (c : BayContext) : c.takesStamp = true ↔
    c.state = .online ∧ ∃ d, c.descriptor = some d ∧ d.marks.getLsbD 3 = true := by
  unfold BayContext.takesStamp
  cases c.descriptor <;> simp

/-- The settling end of an episode's records, as the state after it shows them. -/
theorem settledRecords_of_end {s u t : State} (himpact : u.impact = s.impact) (hbay : ∀ b, u.bay b = s.bay b)
    (hstore : t.impact = (u.settlingEnd s.drop.records).impact) (hlink : t.link = (u.settlingEnd s.drop.records).link)
    (hclock : t.clock = u.clock) : SettledRecords s t := by
  have htakes (b : Bay) : ((s.bay b).state = .online ∧ ∃ d, (s.bay b).descriptor = some d ∧ d.marks.getLsbD 3 = true) ↔
      (u.bay b).takesStamp = true := by
    rw [hbay, takesStamp_iff]
  have hoff (b : Bay) (hb : ¬ ((s.bay b).state = .online ∧
      ∃ d, (s.bay b).descriptor = some d ∧ d.marks.getLsbD 3 = true)) : (u.bay b).takesStamp = false :=
    Bool.eq_false_iff.2 fun ht => hb ((htakes b).2 ht)
  intro q hq r hr
  rw [← himpact] at hr
  refine ⟨fun ho => hstore ▸ settlingEnd_closed _ hr ho, fun ho => ⟨fun b hb => ?_, fun ha hb hsa hsb => ?_⟩⟩
  · rw [hstore, hlink]
    exact settlingEnd_pending hq hr ho ((htakes b).1 hb)
  · rw [hstore, settlingEnd_closes hq hr ho (hoff .a ha) (hoff .b hb) (by simp [ImpactRecord.stamping, hsa, hsb]),
      State.uptime, hclock]
    rfl

end Sys2Proof.Machine.TheHoldSet
end

section
/-! SUPPORT. The ends of a fall episode: what its end leaves of the hold set, the records and the news, and the four commands
that bring it (R97, R104, R144, R145, R151, R153, R161). -/

namespace Sys2Proof.Machine.TheHoldSet

open Sys2Proof.Machine.PowerSources
open Sys2Proof.Machine.ReleasingPack (posted_of_list postNews_of_list)

/-! ### News -/

theorem newsWithin_of_or {s t : State} {bits x : Byte} (h : t.notices.news = s.notices.news ||| x)
    (hx : x ||| bits = bits) : NewsWithin bits s t := by
  have hbit (i : Nat) : x.getLsbD i = true → bits.getLsbD i = true := fun hi => by
    rw [← hx, BitVec.getLsbD_or, hi, Bool.true_or]
  unfold NewsWithin
  rw [h]
  refine ⟨BitVec.eq_of_getLsbD_eq fun i hi => ?_, BitVec.eq_of_getLsbD_eq fun i hi => ?_⟩
  · simp only [BitVec.getLsbD_and, BitVec.getLsbD_or, BitVec.getLsbD_not, hi, decide_true, Bool.true_and]
    have hwithin := hbit i
    generalize x.getLsbD i = p at hwithin ⊢
    generalize bits.getLsbD i = q at hwithin ⊢
    cases p
    · rw [Bool.or_false]
    · simp [hwithin rfl]
  · simp only [BitVec.getLsbD_and, BitVec.getLsbD_or, BitVec.getLsbD_not, hi, decide_true, Bool.true_and]
    cases s.notices.news.getLsbD i <;> simp

/-- The news that a settling end sets: none, or IMPACT (R162). -/
def ImpactNews (s t : State) : Prop := ∃ x : Byte, (x = 0 ∨ x = newsImpact) ∧ t.notices.news = s.notices.news ||| x

theorem ImpactNews.of_same {s t : State} (h : t.notices.news = s.notices.news) : ImpactNews s t :=
  ⟨0, .inl rfl, by simp [h]⟩

theorem ImpactNews.trans {s t u : State} (h : ImpactNews s t) (h' : ImpactNews t u) : ImpactNews s u := by
  obtain ⟨x, hx, hs⟩ := h
  obtain ⟨y, hy, ht⟩ := h'
  refine ⟨x ||| y, ?_, by rw [ht, hs, BitVec.or_assoc]⟩
  rcases hx with rfl | rfl <;> rcases hy with rfl | rfl <;> simp

theorem settleRecord_impactNews (s : State) (q : Nat) : ImpactNews s (s.settleRecord q) := by
  have hput (u : ImpactStore) : ImpactNews s (s.putStamps u q) := by
    unfold State.putStamps
    split
    · exact ⟨newsImpact, .inr rfl, rfl⟩
    · exact .of_same rfl
  unfold State.settleRecord
  split
  · split
    · have hrecord (t : State) (r : ImpactRecord) (b : Bay) : ImpactNews t (t.handRecord r b) :=
        .of_same (handRecord_kept t r b .news (by simp))
      exact ((hput _).trans (hrecord _ _ .a)).trans (hrecord _ _ .b)
    · exact .of_same rfl
  · exact .of_same rfl

theorem settlingEnd_impactNews (s : State) (l : List Nat) : ImpactNews s (s.settlingEnd l) := by
  induction l generalizing s with
  | nil => exact .of_same rfl
  | cons q qs ih => exact (settleRecord_impactNews s q).trans (ih _)

/-! ### The work of an episode's end -/

/-- The parts that an episode's end changes before its command ends. -/
def endParts : List Part := [.clock, .drop, .holds, .bright, .impact, .link, .news]

/-- What an episode's end leaves, before its command ends. -/
structure Ended (s a : State) : Prop where
  released : FallReleased s a
  settled : SettledRecords s a
  news : ImpactNews s a
  kept : Kept endParts s a
  bytes : BytesKept [impactArea] s a

theorem removeFallEntries_kept (s : State) : Kept [.holds, .bright] s s.removeFallEntries :=
  (((holdRemove_kept s _ _).trans (holdRemove_kept _ _ _)).trans (holdRemove_kept _ _ _)).trans (holdRemove_kept _ _ _)

theorem removeFallEntries_holdShaped {s : State} (h : HoldShaped s) : HoldShaped s.removeFallEntries :=
  holdRemove_holdShaped _ _ _ (holdRemove_holdShaped _ _ _ (holdRemove_holdShaped _ _ _ (holdRemove_holdShaped _ _ _ h)))

theorem removeFallEntries_bright {s : State} (h : HoldShaped s) :
    s.removeFallEntries.bright = { s.bright with frozen := s.removeFallEntries.holds.inForce .brightFreeze } := by
  obtain ⟨hfrozen, -⟩ := removeFallEntries_holdShaped h
  exact congrArg (fun f => { s.bright with frozen := f }) hfrozen

theorem fallReleased_congr {s t u : State} (hentries : u.holds.entries = t.holds.entries) (hbright : u.bright = t.bright)
    (h : FallReleased s t) : FallReleased s u := by
  obtain ⟨hfiltered, hfrozen⟩ := h
  exact ⟨hentries.trans hfiltered, by rw [hbright, hfrozen, inForce_congr hentries]⟩

theorem settledRecords_congr {s t u : State} (himpact : u.impact = t.impact) (hlink : u.link = t.link)
    (hclock : u.clock = t.clock) : SettledRecords s t → SettledRecords s u := by
  unfold SettledRecords State.uptime
  rw [himpact, hlink, hclock]
  exact id

section
variable {s a : State}

theorem Ended.setDrop (h : Ended s a) (d : DropMonitor) : Ended s (a.setDrop d) where
  released := h.released
  settled := h.settled
  news := h.news
  kept := (h.kept.append (setDrop_kept a d)).mono (by decide)
  bytes := h.bytes

/-- The end of an episode from a state that has moved the clock and the monitor, and kept the episode's records. -/
theorem endEpisode_ended {m : State} (hshaped : s.Shaped) (hm : Kept [.clock, .drop] s m)
    (hmem : m.port.memory = s.port.memory) (hrecords : m.drop.records = s.drop.records) : Ended s m.endEpisode := by
  have himpact : m.impact = s.impact := hm .impact (by simp)
  have hentries : m.holds.entries = s.holds.entries := hm .holds (by simp)
  have hbright : m.bright = s.bright := hm .bright (by simp)
  have hremoved := removeFallEntries_kept m
  have hsettling := settlingEnd_kept m.removeFallEntries m.drop.records
  have hholds : HoldShaped m := by
    obtain ⟨hfrozen, hpairs⟩ := holdShaped_of_shaped hshaped
    exact ⟨by rw [hbright, inForce_congr hentries, hfrozen], by rw [hentries]; exact hpairs⟩
  obtain ⟨-, hplaces, -⟩ := (shaped_iff s).1 hshaped
  refine Ended.setDrop (a := m.removeFallEntries.settlingEnd m.drop.records) ⟨?_, ?_, ?_, ?_, ?_⟩ _
  · refine fallReleased_congr (settlingEnd_holds _ _) (hsettling .bright (by simp)) ⟨?_, ?_⟩
    · rw [removeFallEntries_entries, hentries]
    · rw [removeFallEntries_bright hholds, hbright]
  · refine settledRecords_of_end (u := m.removeFallEntries) ?_ (fun b => ?_) ?_ ?_ (hsettling .clock (by simp))
    · exact Eq.trans (hremoved .impact (by simp)) himpact
    · exact Eq.trans (hremoved (.bay b) (by simp)) (hm (.bay b) (by simp))
    · rw [hrecords]
    · rw [hrecords]
  · have hsame : ImpactNews s m.removeFallEntries := .of_same (hm .news (by simp))
    exact hsame.trans (settlingEnd_impactNews _ _)
  · exact ((hm.append hremoved).append hsettling).mono (by decide)
  · have hstore := settlingEnd_change m.removeFallEntries m.drop.records (by
      rw [show m.removeFallEntries.impact = s.impact from himpact, hplaces])
    exact (BytesKept.of_memory (s := s) hmem).append hstore.2

/-! ### The end of the command -/

/-- What the rewrites of a command of the monitor name: nothing but its own section. -/
def DropOnly (w : Rewrites) : Prop :=
  w.all = false ∧ w.places = false ∧ w.sources = false ∧ w.bright = false

/-- What the end of an episode's command leaves. -/
theorem Ended.finished (h : Ended s a) (hs : s.LinesHold) {w : Rewrites} (hw : DropOnly w) :
    let t := State.refresh s w a.driveLines
    FallReleased s t ∧ SettledRecords s t ∧ NewsWithin newsImpact s t ∧
      Kept [.clock, .drop, .holds, .storageGuard, .bright, .impact, .link, .news, .attention] s t ∧
      BytesKept [dropArea, holdArea, brightArea, impactArea] s t := by
  intro t
  obtain ⟨hreleased, hsettled, ⟨x, hx, hnews⟩, hkept, hbytes⟩ := h
  obtain ⟨hall, hplaces, hsources, hbright⟩ := hw
  refine ⟨fallReleased_congr rfl rfl hreleased, settledRecords_congr rfl rfl rfl hsettled, ?_, ?_, ?_⟩
  · refine newsWithin_of_or ((finished_news w hs hkept (by decide) (by decide)).trans hnews) ?_
    rcases hx with rfl | rfl <;> decide
  · exact kept_finished w hs hkept (by decide) (hkept .hibernate (by decide))
      (.inr (hibernateLevel_of_kept hkept (by decide))) (by simp) (by simp)
  · exact hbytes.finished w hs hkept (by decide) ⟨hall, hplaces⟩ _ (by simp) (by simp [hsources]) (by simp [endParts])
      (by simp [endParts]) (by simp) (by simp) (by simp)

/-- What it leaves when the command also posts a notice. -/
theorem Ended.posted (h : Ended s a) (hs : s.LinesHold) {w : Rewrites} (hw : DropOnly w) (kind : NoticeKind)
    (flags : Nat) (payload : List Byte) :
    let t := State.refresh s w (a.post kind none flags payload).driveLines
    FallReleased s t ∧ SettledRecords s t ∧ Posted s t kind none flags payload ∧
      NewsWithin (newsImpact ||| s.postNews) s t ∧
      Kept [.noticeList, .clock, .drop, .holds, .storageGuard, .bright, .impact, .link, .news, .attention] s t ∧
      BytesKept [noticeArea s, dropArea, holdArea, brightArea, impactArea] s t := by
  intro t
  obtain ⟨hreleased, hsettled, ⟨x, hx, hnews⟩, hended, hbytes⟩ := h
  obtain ⟨hall, hplaces, hsources, hbright⟩ := hw
  have hpost := post_kept a kind none flags payload
  have hkept := hended.append hpost
  have hlist : a.notices.list = s.notices.list := hended .noticeList (by decide)
  have hplace : noticeArea a = noticeArea s := by
    have hbottom : a.notices.bottom = s.notices.bottom := congrArg Prod.fst hlist
    rw [noticeArea, noticeArea, hbottom]
  have hwritten : BytesKept ([impactArea] ++ [noticeArea s]) s (a.post kind none flags payload) :=
    hplace ▸ hbytes.append (post_bytesKept a kind none flags payload)
  refine ⟨fallReleased_congr (hpost .holds (by simp)) (hpost .bright (by simp)) hreleased,
    settledRecords_congr (hpost .impact (by simp)) (hpost .link (by simp)) (hpost .clock (by simp)) hsettled,
    posted_of_list hlist (post_posted a kind none flags payload), ?_, ?_, ?_⟩
  · have htold : t.notices.news = s.notices.news ||| (x ||| s.postNews) := by
      rw [show t.notices.news = _ from finished_news w hs hkept (by decide) (by decide), post_news, hnews,
        postNews_of_list hlist, BitVec.or_assoc]
    refine newsWithin_of_or htold ?_
    rw [← BitVec.or_assoc, BitVec.or_assoc x, BitVec.or_comm s.postNews, ← BitVec.or_assoc x, BitVec.or_assoc,
      BitVec.or_self]
    rcases hx with rfl | rfl <;> simp
  · exact kept_finished w hs hkept (by simp [endParts]) (hkept .hibernate (by decide))
      (.inr (hibernateLevel_of_kept hkept (by decide))) (by simp) (by simp)
  · exact hwritten.finished w hs hkept (by decide) ⟨hall, hplaces⟩ _ (by simp) (by simp [hsources]) (by simp [endParts])
      (by simp [endParts]) (by simp) (by simp) (by simp)

end

/-! ### The commands (R144, R145, R151, R153) -/

theorem dropOnly_finishDrop (c : Bool) : DropOnly { drop := c } := ⟨rfl, rfl, rfl, rfl⟩

/-- The state at a settle timer's or a cap's end, with its settling data removed (R151). -/
def settleOver (s : State) (till : Instant) : State :=
  (s.reach till).setDrop { s.drop with settling := none }

theorem settled_ended {s : State} (hshaped : s.Shaped) (till : Instant) : Ended s (s.reach till).settled :=
  (endEpisode_ended (m := settleOver s till) hshaped ((reach_kept s till).append (setDrop_kept _ _)) rfl rfl).setDrop _

theorem settled_drop (s : State) :
    s.settled.drop = { s.drop with state := .quiet, settling := none, n := none, r := none, episode := none } := by
  show { (s.setDrop { s.drop with settling := none }).endEpisode.drop with state := .quiet, n := none, r := none } = _
  rw [endEpisode_drop]
  rfl

theorem endEpisode_clock (s : State) : s.endEpisode.clock = s.clock :=
  Eq.trans (settlingEnd_kept s.removeFallEntries s.drop.records .clock (by simp)) rfl

/-- SETTLING ends at an instant: what the statement says of both its timers. -/
theorem settled_finished {s : State} (hs : s.LinesHold) (hshaped : s.Shaped) (till : Instant) {w : Rewrites}
    (hw : DropOnly w) :
    let t := State.refresh s w (s.reach till).settled.driveLines
    t.clock = max s.clock till ∧
      t.drop = { s.drop with state := .quiet, settling := none, n := none, r := none, episode := none } ∧
      FallReleased s t ∧ SettledRecords s t ∧ NewsWithin newsImpact s t ∧
      Kept [.clock, .drop, .holds, .storageGuard, .bright, .impact, .link, .news, .attention] s t ∧
      BytesKept [dropArea, holdArea, brightArea, impactArea] s t :=
  ⟨endEpisode_clock (settleOver s till), settled_drop (s.reach till), (settled_ended hshaped till).finished hs hw⟩

/-- The state at the guard tail's end, with its timer removed (R153). -/
def tailOver (s : State) (till : Instant) : State := (s.reach till).setDrop { s.drop with guardTail := none }

theorem tailOver_ended {s : State} (hshaped : s.Shaped) (till : Instant) : Ended s (tailOver s till).endEpisode :=
  endEpisode_ended hshaped ((reach_kept s till).append (setDrop_kept _ _)) rfl rfl

/-! ### The fall that is caught (R135, R144, R145) -/

theorem clampInt_sample (z : Int) : clampInt (-16000) 16000 z = max (-16000) (min 16000 z) := by
  unfold clampInt
  split
  · omega
  · split <;> omega

/-- M of a clamped sample (R135). -/
theorem accelSquared_eq (a : Accel) : accelSquared (accelClamped a) = magnitude a := by
  simp only [accelSquared, accelClamped, magnitude, heldSample, clampInt_sample, sq]

/-- The state at the sample that catches a fall, its missing count cleared. -/
def caughtAt (s : State) (due : Instant) : State := withMissing (s.atSample due) 0

theorem caughtAt_kept (s : State) (due : Instant) : Kept [.clock, .drop] s (caughtAt s due) :=
  ((reach_kept s due).append (setDrop_kept _ _)).trans ((setDrop_kept _ _).mono (by simp))

/-- The eighth normal sample of a fall is the one that catches it. -/
theorem sample_caught {s : State} {a : Accel} {due : Instant} {n : Nat} (hstate : s.drop.state = .falling)
    (hn : s.drop.n = some n) (hr : s.drop.r = some 7) (hlow : ¬ s.Low a) (hhigh : ¬ s.High a) :
    (s.atSample due).sample (some a) = (caughtAt s due).caught (fallCount n) := by
  have hnotHigh : (caughtAt s due).drop.thresholds.isHigh (accelSquared (accelClamped a)) = false := by
    show s.drop.thresholds.isHigh _ = false
    rw [accelSquared_eq, Thresholds.isHigh, decide_eq_false_iff_not, ← sq]
    exact hhigh
  have hnotLow : (caughtAt s due).drop.thresholds.isLow (accelSquared (accelClamped a)) = false := by
    show s.drop.thresholds.isLow _ = false
    rw [accelSquared_eq, Thresholds.isLow, decide_eq_false_iff_not, ← sq]
    exact hlow
  have hjudged : judged (caughtAt s due) (accelClamped a) =
      (caughtAt s due).fallingSample ((caughtAt s due).drop.n.getD 0) ((caughtAt s due).drop.r.getD 0) (accelClamped a) := by
    unfold judged
    rw [show (caughtAt s due).drop.state = .falling from hstate]
  show (s.atSample due).goodSample (accelClamped a) = _
  rw [goodSample_eq]
  refine hjudged.trans ?_
  rw [show (caughtAt s due).drop.n = some n from hn, show (caughtAt s due).drop.r = some 7 from hr, State.fallingSample,
    if_neg (Bool.eq_false_iff.1 hnotHigh), if_neg (Bool.eq_false_iff.1 hnotLow)]
  rfl

theorem handsBounce_falling {s : State} (h : s.drop.state = .falling) (a : Accel) : s.handsBounce a = false := by
  unfold State.handsBounce
  rw [h]

theorem exec_accelSample_caught {s : State} {a : Accel} {due : Instant} {n : Nat} (hs : s.LinesHold)
    (hshaped : s.Shaped) (hdue : s.drop.sampleDue = some due) (hstate : s.drop.state = .falling)
    (hn : s.drop.n = some n) (hr : s.drop.r = some 7) (hlow : ¬ s.Low a) (hhigh : ¬ s.High a) :
    ∃ t, exec (.accelSample a) s = .next t ∧ t.clock = max s.clock due ∧
      t.drop = { s.drop with
        missing := 0, sampleDue := some (due + 5), state := .quiet, n := none, r := none, episode := none } ∧
      FallReleased s t ∧ SettledRecords s t ∧
      Posted s t .fallCaught none (if s.drop.continued then 1 else 0)
        (leBytes 2 (fallCount n) ++ leBytes 2 (fallHeight (fallCount n))) ∧
      NewsWithin (newsImpact ||| s.postNews) s t ∧
      Kept [.noticeList, .clock, .drop, .holds, .storageGuard, .bright, .impact, .link, .news, .attention] s t ∧
      BytesKept [noticeArea s, dropArea, holdArea, brightArea, impactArea] s t := by
  have hexec : exec (.accelSample a) s = finishDrop s ((caughtAt s due).caught (fallCount n)) := by
    simp only [exec, execAccelSample, hdue, handsBounce_falling hstate, Bool.false_eq_true, if_false]
    rw [sample_caught hstate hn hr hlow hhigh]
  have hended : Ended s (caughtAt s due).endEpisode.enterQuiet :=
    (endEpisode_ended (m := caughtAt s due) hshaped (caughtAt_kept s due) rfl rfl).setDrop _
  have hpost := post_kept (caughtAt s due).endEpisode.enterQuiet .fallCaught none
    (flagBit 0 (caughtAt s due).drop.continued) (leBytes 2 (fallCount n) ++ leBytes 2 (fallHeight (fallCount n)))
  have hflag : flagBit 0 (caughtAt s due).drop.continued = if s.drop.continued then 1 else 0 := by
    show flagBit 0 s.drop.continued = _
    cases s.drop.continued <;> rfl
  obtain ⟨hreleased, hsettled, hposted, hnews, hkept, hbytes⟩ := hended.posted hs (dropOnly_finishDrop _) .fallCaught
    (flagBit 0 (caughtAt s due).drop.continued) (leBytes 2 (fallCount n) ++ leBytes 2 (fallHeight (fallCount n)))
  refine ⟨_, hexec, Eq.trans (hpost .clock (by simp)) (endEpisode_clock (caughtAt s due)),
    Eq.trans (hpost .drop (by simp)) ?_, hreleased, hsettled, hflag ▸ hposted, hnews, hkept, hbytes⟩
  show { (caughtAt s due).endEpisode.drop with state := .quiet, n := none, r := none } = _
  rw [endEpisode_drop]
  rfl

/-- Settles O58: each of the four ends of an episode is the same end, with FALL_CAUGHT for a fall that is caught. -/
theorem fallsEnd : Obligations.FallsEnd := by
  intro s hs hshaped _
  refine ⟨fun a due hdue hstate n hn hr hlow hhigh =>
    exec_accelSample_caught hs hshaped hdue hstate hn hr hlow hhigh, fun g hg _ => ⟨?_, ?_⟩, fun till htill => ?_⟩
  · have hexec : exec .settleTimerExpiry s = finishDrop s (s.reach g.settleTimer).settled := by
      simp only [exec, execSettleTimerExpiry, hg]
    exact ⟨_, hexec, settled_finished hs hshaped g.settleTimer (dropOnly_finishDrop _)⟩
  · have hexec : exec .settlingCapExpiry s = finishDrop s (s.reach g.capTimer).settled := by
      simp only [exec, execSettlingCapExpiry, hg]
    exact ⟨_, hexec, settled_finished hs hshaped g.capTimer (dropOnly_finishDrop _)⟩
  · have hexec : exec .guardTailExpiry s = finishDrop s (tailOver s till).endEpisode := by
      simp only [exec, execGuardTailExpiry, htill]
      rfl
    exact ⟨_, hexec, endEpisode_clock (tailOver s till), endEpisode_drop (tailOver s till),
      (tailOver_ended hshaped till).finished hs (dropOnly_finishDrop _)⟩

end Sys2Proof.Machine.TheHoldSet
end
